-- ==== Sys2Proof/Word.lean ====
section
/-! DEFINITION. The words of the block: plain bit vectors, at the widths the spec names (spec/00_scope.md R9). -/

namespace Sys2Proof

/-- `u8`: one byte; bit 7 is the most significant (R9). -/
abbrev Byte := BitVec 8

/-- `u16`: an EEPROM address or a backing-store index (R9, R61). -/
abbrev U16 := BitVec 16

/-- `u9`: an SRAM index, which wraps modulo 512 (R9, R62). -/
abbrev U9 := BitVec 9

/-- A device slot index, `u2` (R23). -/
abbrev Slot := BitVec 2

/-- A count or capacity register: `P_CNT_WIDTH` = 16 bits (R7, R25, R26, D10). -/
abbrev Count := BitVec 16

end Sys2Proof
end

