-- ==== Sys2Proof/Config.lean ====
section
/-! DEFINITION. The parameters `P_*` of spec/00_scope.md R7 as plain data, the spec's default of each parameter that
has one, and the FREE VALUES: an `opaque` constant without a body for each OPEN parameter, for the answers of the
collaborators (R8) and for the SRAM contents at power-up (D32). Nothing in Lean can evaluate a free value. -/

namespace Sys2Proof

/-- The four device kinds a slot can hold (R31). -/
inductive DeviceKind where
  | eeprom
  | adc
  | gpi
  | sram
  deriving DecidableEq, Repr

/-- The backing store of an EEPROM region (spec/43_eeprom.md R180). -/
inductive RegionKind where
  | persist
  | program
  | snapshot
  | fillr
  deriving DecidableEq, Repr

/-- The access attribute of an EEPROM region (R180, R182): `RO`, `PROTECTED` or `OPEN`. -/
inductive Access where
  | ro
  | protect
  | openAccess
  deriving DecidableEq, Repr

/-- One entry `(lo, hi, kind, off, access)` of `P_EE_REGIONS` (R180). -/
structure Region where
  lo : U16
  hi : U16
  kind : RegionKind
  off : U16
  access : Access
  deriving DecidableEq, Repr

/-- The three arm registers, each a valid bit and a byte: `none` is invalid (R32). -/
structure Arm where
  hi : Option Byte
  lo : Option Byte
  data : Option Byte
  deriving DecidableEq, Repr

/-- `P_ADC_DIFF_POL`: which difference goes with a set low mux bit (R7, R220). -/
inductive DiffPol where
  | setIsChanMinusPair
  | setIsPairMinusChan
  deriving DecidableEq, Repr

/-- `P_ADC_DIFF_ENC`: the map from the difference, -255 to 255, to the result byte (R7, R220): the default
`d mod 256`, or any other map as its table, entry `d + 255`. -/
inductive DiffEnc where
  | mod256
  | table (entries : Vector Byte 511)
  deriving DecidableEq, Repr

/-- A read of a collaborator (R8): each answer is a draw. -/
inductive Request where
  | adcSample (hw : Nat) (ref : BitVec 1)
  | pinRead
  | persistRead (a : U16)
  | progRead (a : U16)
  | regSnap (a : U16)
  deriving DecidableEq, Repr

/-- The registry `reg[0..3]` (R31): `none` is `Empty`. -/
abbrev Registry := Vector (Option DeviceKind) 4

/-- The parameters of R7. `N_SLOTS` = 4, `SRAM_SIZE` = 512 and `P_CNT_WIDTH` = 16 are in the types. -/
structure Params where
  /-- `P_BASE_ADDR[6:2]`; bits 1:0 of the base address are 0 (R7, R82). -/
  base : BitVec 5
  /-- `P_SLOT_DEVICE[0..3]`. -/
  slotDevice : Vector DeviceKind 4
  /-- `P_REGISTERED`, one flag a slot. -/
  registered : Vector Bool 4
  /-- `P_TIMEOUT`, in ticks, at least 1. -/
  timeout : Nat
  /-- `P_TICK_MS`; no rule reads it (R166). -/
  tickMs : Nat
  /-- `P_GPI_PERIOD`, in ticks, at least 1. -/
  gpiPeriod : Nat
  /-- `P_EE_REGIONS`. -/
  eeRegions : List Region
  /-- `P_EE_FILL`. -/
  eeFill : Byte
  /-- `P_EE_WINDOW`: 1 to 512 bytes, since R7 asks for at least 1 and no grant exceeds 512 bytes (R25, D10). -/
  eeWindow : Count
  /-- `P_WE_HI`. -/
  weHi : U16
  /-- `P_WE_LO`. -/
  weLo : U16
  /-- `P_WE_DATA`. -/
  weData : U16
  /-- `P_EE_CTRL`. -/
  eeCtrl : U16
  /-- `P_ARM_CLEAR`. -/
  armClear : Arm
  /-- `P_ADC_MAP[0..7]`: logical channel to hardware channel id. -/
  adcMap : Vector Nat 8
  /-- `P_ADC_SE_VALUE`: the value of command bit 7 that selects single-ended. -/
  adcSeValue : Bool
  /-- `P_ADC_DIFF_POL`. -/
  adcDiffPol : DiffPol
  /-- `P_ADC_DIFF_ENC`. -/
  adcDiffEnc : DiffEnc
  /-- `P_ADC_RESET_CMD`. -/
  adcResetCmd : Byte
  /-- `P_SRAM_PAGE`, in bytes, at least 1. -/
  sramPage : Nat
  /-- `P_GPI_IRQ_LEVEL`: the electrical level of the asserted GPI line. -/
  gpiIrqLevel : Bool
  deriving DecidableEq, Repr

/-- What reset leaves in one slot: `P_SLOT_DEVICE[s]` for s in `P_REGISTERED`, else `Empty` (R31). -/
def Params.slotAtReset (p : Params) (s : Fin 4) : Option DeviceKind :=
  if p.registered[s] then some p.slotDevice[s] else none

/-- `reg` as reset leaves it (R31). -/
def Params.registry (p : Params) : Registry :=
  #v[p.slotAtReset 0, p.slotAtReset 1, p.slotAtReset 2, p.slotAtReset 3]

/-- The entry is one R180 admits: `lo <= hi`, and only a `PERSIST` entry is other than `RO`. -/
def Region.wf (r : Region) : Bool :=
  r.lo.ule r.hi && (r.kind == .persist || r.access == .ro)

/-- The two entries share no address (R180). -/
def Region.apart (r q : Region) : Bool :=
  r.hi.ult q.lo || q.hi.ult r.lo

/-- The region list is one R180 admits: each entry is, and no two overlap. -/
def regionsWf : List Region → Bool
  | [] => true
  | r :: rest => r.wf && rest.all r.apart && regionsWf rest

/-- The four special EEPROM addresses are distinct (R87). -/
def Params.specialsApart (p : Params) : Bool :=
  p.weHi != p.weLo && p.weHi != p.weData && p.weLo != p.weData &&
    p.eeCtrl != p.weHi && p.eeCtrl != p.weLo && p.eeCtrl != p.weData

/-- Each device kind occupies at most one slot (R31). -/
def registryWf (reg : Registry) : Bool :=
  decide (∀ i : Fin 4, ∀ j : Fin 4, i ≠ j → reg[i] = reg[j] → reg[i] = none)

/-- The largest grant, in bytes (R25, D10). -/
def Config.largestGrant : Nat := 512

/-- What the spec asks of the parameters (R7, R25, R31, R87, R180). -/
def Params.wf (p : Params) : Bool :=
  decide (1 ≤ p.timeout) && decide (1 ≤ p.gpiPeriod) && decide (1 ≤ p.sramPage) && p.eeWindow != 0 &&
    decide (p.eeWindow.toNat ≤ Config.largestGrant) && regionsWf p.eeRegions && p.specialsApart && registryWf p.registry

namespace Config

/-- `FILL`, the byte sent when no granted byte is left (R7): 0xFF. -/
def fill : Byte := 0xFF

/-- `SRAM_SIZE` (R7): 512 bytes. -/
def sramSize : Nat := 512

/-- FREE VALUE (log 2): `P_BASE_ADDR[6:2]`, OPEN. -/
opaque openBase : BitVec 5

/-- FREE VALUE (log 2): one less than `P_TIMEOUT`, OPEN. -/
opaque openTimeout : Nat

/-- FREE VALUE (log 2): `P_EE_REGIONS` before `admitRegions`, OPEN. -/
opaque openRegions : List Region

/-- FREE VALUE (log 2): one less than `P_EE_WINDOW`, OPEN; the window is 1 to 512 bytes (R7, R25). -/
opaque openWindow : Fin 512

/-- FREE VALUE (log 2): `P_EE_CTRL` before `admitCtrl`, OPEN. -/
opaque openCtrl : U16

/-- FREE VALUE (log 2): `P_ADC_MAP`, OPEN. -/
opaque openAdcMap : Vector Nat 8

/-- FREE VALUE (log 2): one less than `P_SRAM_PAGE`, OPEN. -/
opaque openPage : Nat

/-- FREE VALUE (log 2): `P_GPI_IRQ_LEVEL`, OPEN. -/
opaque openIrqLevel : Bool

/-- FREE VALUE (log 3): the answer to the `k`-th collaborator read, when the state's `draws` hold none (R8, I9). -/
opaque collabAnswer : Nat → Request → Byte

/-- FREE VALUE (log 15): the byte `rx` of the data event that an `R` or an `RN` is (R11, R95). The master writes none
there; a read ignores it, and in a write transaction, an order no rule gives a meaning, it is what the engine
receives. -/
opaque requestRx : Byte

/-- FREE VALUE (log 4): byte `i` of the SRAM at power-up (R35, D32, I7). -/
opaque sramDraw : Nat → Byte

/-- The longest well-formed region list read off a list: an entry that R180 does not admit, or that overlaps an
entry already kept, is passed over. A list that R180 admits is kept whole, so `admitRegions openRegions` is any
region list of the spec and none other (log 2). -/
def admitRegions : List Region → List Region
  | [] => []
  | r :: rest =>
    let kept := admitRegions rest
    if r.wf && kept.all r.apart then r :: kept else kept

/-- `P_EE_CTRL` is distinct from the three arm addresses (R87): 0x0083 stands for a value that is not (log 2). -/
def admitCtrl (a : U16) : U16 :=
  if a = 0x0080 ∨ a = 0x0081 ∨ a = 0x0082 then 0x0083 else a

/-- The parameters of the reset state: the spec's default where R7 gives one, a free value where R7 says OPEN. -/
def params : Params where
  base := openBase
  slotDevice := #v[.eeprom, .adc, .gpi, .sram]
  registered := #v[true, true, true, true]
  timeout := openTimeout + 1
  tickMs := 1
  gpiPeriod := 1
  eeRegions := admitRegions openRegions
  eeFill := 0xFF
  eeWindow := BitVec.ofNat 16 (openWindow.val + 1)
  weHi := 0x0080
  weLo := 0x0081
  weData := 0x0082
  eeCtrl := admitCtrl openCtrl
  armClear := ⟨none, none, none⟩
  adcMap := openAdcMap
  adcSeValue := true
  adcDiffPol := .setIsChanMinusPair
  adcDiffEnc := .mod256
  adcResetCmd := 0x00
  sramPage := openPage + 1
  gpiIrqLevel := openIrqLevel

/-- The SRAM cells at power-up: every byte a draw (R35, D32), those that are not 0x00 listed (log 4). -/
def sramPowerUp : List Host.Cell :=
  (List.range sramSize).filterMap fun i => if sramDraw i = 0x00 then none else some (i, sramDraw i)

end Config

end Sys2Proof
end

