-- ==== Sys2Proof/Syntax.lean ====
section
/-! DEFINITION. The syntax of the block: the phases a device is called with (spec/30_encoding.md R94), the events of
the peripheral (R95), the tokens of a frame (spec/00_scope.md R11), the items of the pending input, and `Instr`, one
constructor per row of spec/opcode_table.json (R100). -/

namespace Sys2Proof

/-- The direction of a transaction (R24, R83). -/
inductive Dir where
  | write
  | read
  deriving DecidableEq, Repr

/-- The kind of a callback phase (R94). `boundary` is WriteBufferFull or ReadBufferEmpty. -/
inductive PhaseKind where
  | start
  | boundary
  | stop
  | error
  deriving DecidableEq, Repr

/-- A callback phase: one of the 8 values {Start, BufferBoundary, Stop, Error} × {Read, Write} (R94, R112). -/
structure Phase where
  dir : Dir
  kind : PhaseKind
  deriving DecidableEq, Repr

/-- The acknowledge of a byte (R28). -/
inductive Ack where
  | ack
  | nack
  deriving DecidableEq, Repr

/-- The four events the peripheral hands the engine (R95). An address event carries the F-ADDR byte (R81); a data
event carries the byte the master wrote and whether the master NACKed the previous byte. -/
inductive BusEvent where
  | addr (a : Byte)
  | data (rx : Byte) (mNack : Bool)
  | stop
  | error
  deriving DecidableEq, Repr

/-- A token of a bus trace (R11): a byte, a read request after the master acknowledged (`R`), a read request after the
master NACKed (`RN`), a stop (`P`), a repeated start (`Sr`), a start (`S`), a bus error (`E`). A tick (`K`) is not on
the bus: it is an item of its own. -/
inductive Token where
  | byte (b : Byte)
  | req
  | reqNack
  | stop
  | restart
  | start
  | error
  deriving DecidableEq, Repr

/-- What ends a frame whose row shows its end (R86, R92): `P` or `Sr`. -/
inductive FrameEnd where
  | stop
  | restart
  deriving DecidableEq, Repr

/-- One item of the pending input: an event of the peripheral (R95), a tick with the engine events taken between its
two critical sections (R163, R292, log 9), an F-PHASE word run alone (R94, log 10), or the tokens of a
transaction after its start condition, whether they fit the frame of a row or not (R85 to R93, R97, log 11). -/
inductive PortItem where
  | event (e : BusEvent)
  | tick (between : List BusEvent)
  | phase (code : BitVec 3)
  | frame (ts : List Token)
  deriving DecidableEq, Repr

/-- The operations of spec/opcode_table.json, one constructor a row, in the table's order.

Events: the address byte is split into window bits `b` and slot `s` (R82); the direction of a data event comes from
`eng.dir`, and its two fields are the event's own (R95). Phase handlers: `n` is reportedByteCount (R110). Frames: `s`
is the slot of the address byte, `reqs` has one entry a read request, true when the master NACKed the byte before. -/
inductive Instr where
  | evAddrW (b : BitVec 5) (s : Slot)
  | evAddrR (b : BitVec 5) (s : Slot)
  | evDataRx (rx : Byte) (mNack : Bool)
  | evDataTx (rx : Byte) (mNack : Bool)
  | evStop
  | evError
  | evTick (between : List BusEvent)
  | eeWriteStart (n : Count)
  | eeWriteBufferFull (n : Count)
  | eeWriteStop (n : Count)
  | eeWriteError (n : Count)
  | eeReadStart (n : Count)
  | eeReadBufferEmpty (n : Count)
  | eeReadStop (n : Count)
  | eeReadError (n : Count)
  | adcWriteStart (n : Count)
  | adcWriteBufferFull (n : Count)
  | adcWriteStop (n : Count)
  | adcWriteError (n : Count)
  | adcReadStart (n : Count)
  | adcReadBufferEmpty (n : Count)
  | adcReadStop (n : Count)
  | adcReadError (n : Count)
  | gpiWriteStart (n : Count)
  | gpiWriteBufferFull (n : Count)
  | gpiWriteStop (n : Count)
  | gpiWriteError (n : Count)
  | gpiReadStart (n : Count)
  | gpiReadBufferEmpty (n : Count)
  | gpiReadStop (n : Count)
  | gpiReadError (n : Count)
  | sramWriteStart (n : Count)
  | sramWriteBufferFull (n : Count)
  | sramWriteStop (n : Count)
  | sramWriteError (n : Count)
  | sramReadStart (n : Count)
  | sramReadBufferEmpty (n : Count)
  | sramReadStop (n : Count)
  | sramReadError (n : Count)
  | eeWriteByte (s : Slot) (hi lo d : Byte)
  | eeArmHi (s : Slot) (d : Byte)
  | eeArmLo (s : Slot) (d : Byte)
  | eeArmData (s : Slot) (d : Byte)
  | eeCtrl (s : Slot) (d : Byte)
  | eeSetCursor (s : Slot) (hi lo : Byte) (fin : FrameEnd)
  | eeRead (s : Slot) (reqs : List Bool)
  | adcCmd (s : Slot) (cmd : Byte)
  | adcRead (s : Slot) (reqs : List Bool)
  | gpiSetMask (s : Slot) (m : Byte)
  | gpiRead (s : Slot) (reqs : List Bool)
  | sramWrite (s : Slot) (hi lo : Byte) (ds : List Byte)
  | sramSetCursor (s : Slot) (hi lo : Byte) (fin : FrameEnd)
  | sramRead (s : Slot) (reqs : List Bool)
  deriving DecidableEq, Repr

end Sys2Proof
end

