-- ==== Sys2Proof/WellFormed.lean ====
section
/-! DEFINITION. Which terms of `Instr` stand for a row of the table in a given context: the checks of
spec/opcode_table.json's field notes and of the frames of spec/30_encoding.md R81 to R93. -/

namespace Sys2Proof

/-- What decoding reads of the block (R87, R94, R95, R97, R100): the parameters, the registry, and the slot, the
direction and the count of the transaction register. -/
structure Ctx where
  cfg : Params
  reg : Registry
  slot : Slot
  dir : Dir
  cnt : Count
  deriving DecidableEq, Repr

/-- `reg[s]` (R31). -/
def Ctx.deviceAt (c : Ctx) (s : Slot) : Option DeviceKind :=
  c.reg[s.toNat]

/-- The EEPROM address is one of the four special addresses (R87). -/
def Params.isSpecial (p : Params) (a : U16) : Bool :=
  a == p.weHi || a == p.weLo || a == p.weData || a == p.eeCtrl

/-- The block answers the 7-bit address of window bits `b` and slot `s`: it lies in the block's window (R82), and it is
neither the general-call address 0000000 nor a 10-bit address prefix 11110xx, which the block answers at no value of
`P_BASE_ADDR` (R96, log 27). -/
def Params.selects (p : Params) (b : BitVec 5) (s : Slot) : Bool :=
  b == p.base && (b ++ s : BitVec 7) != 0b0000000 && b != 0b11110

/-- The block answers the address of slot `s` (R82, R96). -/
def Params.answers (p : Params) (s : Slot) : Bool := p.selects p.base s

/-- The slot's address is answered and the slot holds the device (R82, R96, R97). -/
def Ctx.serves (c : Ctx) (s : Slot) (k : DeviceKind) : Bool :=
  c.cfg.answers s && c.deviceAt s == some k

/-- An address byte of the event is one the block answers (R82, R96). -/
def BusEvent.wf (p : Params) : BusEvent → Bool
  | .addr a => p.selects (a.extractLsb' 3 5) (a.extractLsb' 1 2)
  | .data _ _ => true
  | .stop => true
  | .error => true

/-- A phase handler of device `k` with count `n` is the one the context selects: `reg[eng.slot] = k` and
reportedByteCount is `eng.cnt` (R100). -/
def Ctx.calls (c : Ctx) (k : DeviceKind) (n : Count) : Bool :=
  c.deviceAt c.slot == some k && n == c.cnt

/-- The term stands for a row of the table in the context. An address event is one the block answers (R82, R96);
a data event goes the transaction's way (R95); a phase handler is the one `reg[eng.slot]` selects (R100); a tick's
engine events have addresses the block answers; a frame's slot is answered and holds the frame's device (R97), an
EE_WRITE_BYTE address is not special (R87), and a frame has at least the data bytes its row shows. -/
def Instr.wf (c : Ctx) : Instr → Bool
  | .evAddrW b s => c.cfg.selects b s
  | .evAddrR b s => c.cfg.selects b s
  | .evDataRx _ _ => c.dir == .write
  | .evDataTx _ _ => c.dir == .read
  | .evStop => true
  | .evError => true
  | .evTick between => between.all (BusEvent.wf c.cfg)
  | .eeWriteStart n => c.calls .eeprom n
  | .eeWriteBufferFull n => c.calls .eeprom n
  | .eeWriteStop n => c.calls .eeprom n
  | .eeWriteError n => c.calls .eeprom n
  | .eeReadStart n => c.calls .eeprom n
  | .eeReadBufferEmpty n => c.calls .eeprom n
  | .eeReadStop n => c.calls .eeprom n
  | .eeReadError n => c.calls .eeprom n
  | .adcWriteStart n => c.calls .adc n
  | .adcWriteBufferFull n => c.calls .adc n
  | .adcWriteStop n => c.calls .adc n
  | .adcWriteError n => c.calls .adc n
  | .adcReadStart n => c.calls .adc n
  | .adcReadBufferEmpty n => c.calls .adc n
  | .adcReadStop n => c.calls .adc n
  | .adcReadError n => c.calls .adc n
  | .gpiWriteStart n => c.calls .gpi n
  | .gpiWriteBufferFull n => c.calls .gpi n
  | .gpiWriteStop n => c.calls .gpi n
  | .gpiWriteError n => c.calls .gpi n
  | .gpiReadStart n => c.calls .gpi n
  | .gpiReadBufferEmpty n => c.calls .gpi n
  | .gpiReadStop n => c.calls .gpi n
  | .gpiReadError n => c.calls .gpi n
  | .sramWriteStart n => c.calls .sram n
  | .sramWriteBufferFull n => c.calls .sram n
  | .sramWriteStop n => c.calls .sram n
  | .sramWriteError n => c.calls .sram n
  | .sramReadStart n => c.calls .sram n
  | .sramReadBufferEmpty n => c.calls .sram n
  | .sramReadStop n => c.calls .sram n
  | .sramReadError n => c.calls .sram n
  | .eeWriteByte s hi lo _ => c.serves s .eeprom && !c.cfg.isSpecial (hi ++ lo)
  | .eeArmHi s _ => c.serves s .eeprom
  | .eeArmLo s _ => c.serves s .eeprom
  | .eeArmData s _ => c.serves s .eeprom
  | .eeCtrl s _ => c.serves s .eeprom
  | .eeSetCursor s _ _ _ => c.serves s .eeprom
  | .eeRead s reqs => c.serves s .eeprom && decide (1 ≤ reqs.length)
  | .adcCmd s _ => c.serves s .adc
  | .adcRead s reqs => c.serves s .adc && decide (1 ≤ reqs.length)
  | .gpiSetMask s _ => c.serves s .gpi
  | .gpiRead s reqs => c.serves s .gpi && decide (2 ≤ reqs.length)
  | .sramWrite s _ _ ds => c.serves s .sram && decide (1 ≤ ds.length)
  | .sramSetCursor s _ _ _ => c.serves s .sram
  | .sramRead s reqs => c.serves s .sram && decide (1 ≤ reqs.length)

end Sys2Proof
end

