-- ==== Sys2Proof/Decode.lean ====
section
/-! DEFINITION. Decoding the pending input into operations and encoding operations, from spec/30_encoding.md. Total on
every item; an item that stands for no row of the table is rejected by name. -/

namespace Sys2Proof

/-- Why an item stands for no row of the table. Such an item still runs (Machine/Frames.lean, `runItem`; log 25). -/
inductive Reject where
  /-- The frame's address byte is none the block answers: it produces no event (R82, R96). -/
  | outsideWindow
  /-- A phase code or a frame for a slot that is `Empty`: the table has no row for the null device (R125). -/
  | emptySlot
  /-- The bytes fit no frame of the slot's device (R85 to R93). -/
  | noFrame
  deriving DecidableEq, Repr

/-! ## Bit fields -/

/-- The window bits `a7[6:2]` of an F-ADDR byte (R81, R82). -/
def windowOf (a : Byte) : BitVec 5 := a.extractLsb' 3 5

/-- The slot `a7[1:0]` of an F-ADDR byte (R82). -/
def slotOf (a : Byte) : Slot := a.extractLsb' 1 2

/-- The direction of an F-ADDR byte: bit 0 set is a read (R81, R83). -/
def dirOf (a : Byte) : Dir := if a.getLsbD 0 then .read else .write

/-- The R/W bit of a direction (R83). -/
def dirBit : Dir → BitVec 1
  | .write => 0
  | .read => 1

/-- The F-ADDR byte of a window, a slot and a direction (R81). -/
def addrByte (b : BitVec 5) (s : Slot) (d : Dir) : Byte := b ++ s ++ dirBit d

/-- `{hi, lo}` (R9, R64). -/
def cat16 (hi lo : Byte) : U16 := hi ++ lo

/-- Bits 15:8 of an address (R9). -/
def hi8 (a : U16) : Byte := a.extractLsb' 8 8

/-- Bits 7:0 of an address (R9). -/
def lo8 (a : U16) : Byte := a.extractLsb' 0 8

/-! ## F-PHASE -/

/-- The phase of an F-PHASE code: bit 2 is the direction, bits 1:0 the kind (R94). -/
def phaseOf (code : BitVec 3) : Phase where
  dir := if code.getLsbD 2 then .read else .write
  kind :=
    match code.getLsbD 1, code.getLsbD 0 with
    | false, false => .start
    | false, true => .boundary
    | true, false => .stop
    | true, true => .error

/-- The F-PHASE code of a phase (R94). -/
def phaseCode : Phase → BitVec 3
  | ⟨.write, .start⟩ => 0b000
  | ⟨.write, .boundary⟩ => 0b001
  | ⟨.write, .stop⟩ => 0b010
  | ⟨.write, .error⟩ => 0b011
  | ⟨.read, .start⟩ => 0b100
  | ⟨.read, .boundary⟩ => 0b101
  | ⟨.read, .stop⟩ => 0b110
  | ⟨.read, .error⟩ => 0b111

/-- The phase handler row of a device and a phase (R100). -/
def decodePhase (k : DeviceKind) (ph : Phase) (n : Count) : Instr :=
  match k, ph with
  | .eeprom, ⟨.write, .start⟩ => .eeWriteStart n
  | .eeprom, ⟨.write, .boundary⟩ => .eeWriteBufferFull n
  | .eeprom, ⟨.write, .stop⟩ => .eeWriteStop n
  | .eeprom, ⟨.write, .error⟩ => .eeWriteError n
  | .eeprom, ⟨.read, .start⟩ => .eeReadStart n
  | .eeprom, ⟨.read, .boundary⟩ => .eeReadBufferEmpty n
  | .eeprom, ⟨.read, .stop⟩ => .eeReadStop n
  | .eeprom, ⟨.read, .error⟩ => .eeReadError n
  | .adc, ⟨.write, .start⟩ => .adcWriteStart n
  | .adc, ⟨.write, .boundary⟩ => .adcWriteBufferFull n
  | .adc, ⟨.write, .stop⟩ => .adcWriteStop n
  | .adc, ⟨.write, .error⟩ => .adcWriteError n
  | .adc, ⟨.read, .start⟩ => .adcReadStart n
  | .adc, ⟨.read, .boundary⟩ => .adcReadBufferEmpty n
  | .adc, ⟨.read, .stop⟩ => .adcReadStop n
  | .adc, ⟨.read, .error⟩ => .adcReadError n
  | .gpi, ⟨.write, .start⟩ => .gpiWriteStart n
  | .gpi, ⟨.write, .boundary⟩ => .gpiWriteBufferFull n
  | .gpi, ⟨.write, .stop⟩ => .gpiWriteStop n
  | .gpi, ⟨.write, .error⟩ => .gpiWriteError n
  | .gpi, ⟨.read, .start⟩ => .gpiReadStart n
  | .gpi, ⟨.read, .boundary⟩ => .gpiReadBufferEmpty n
  | .gpi, ⟨.read, .stop⟩ => .gpiReadStop n
  | .gpi, ⟨.read, .error⟩ => .gpiReadError n
  | .sram, ⟨.write, .start⟩ => .sramWriteStart n
  | .sram, ⟨.write, .boundary⟩ => .sramWriteBufferFull n
  | .sram, ⟨.write, .stop⟩ => .sramWriteStop n
  | .sram, ⟨.write, .error⟩ => .sramWriteError n
  | .sram, ⟨.read, .start⟩ => .sramReadStart n
  | .sram, ⟨.read, .boundary⟩ => .sramReadBufferEmpty n
  | .sram, ⟨.read, .stop⟩ => .sramReadStop n
  | .sram, ⟨.read, .error⟩ => .sramReadError n

/-! ## F-ADDR, F-DATA, F-EVENT -/

/-- The event row of a peripheral event; the direction of a data event is the transaction's (R95, R100). -/
def decodeEvent (c : Ctx) : BusEvent → Instr
  | .addr a =>
    match dirOf a with
    | .write => .evAddrW (windowOf a) (slotOf a)
    | .read => .evAddrR (windowOf a) (slotOf a)
  | .data rx mNack =>
    match c.dir with
    | .write => .evDataRx rx mNack
    | .read => .evDataTx rx mNack
  | .stop => .evStop
  | .error => .evError

/-! ## Frames -/

/-- The read requests of a frame's tokens; none where another token stands among them. -/
def decodeReqs : List Token → Option (List Bool)
  | [] => some []
  | .req :: ts => (decodeReqs ts).map (false :: ·)
  | .reqNack :: ts => (decodeReqs ts).map (true :: ·)
  | .byte _ :: _ => none
  | .stop :: _ => none
  | .restart :: _ => none
  | .start :: _ => none
  | .error :: _ => none

/-- The data bytes of a frame's tokens; none where another token stands among them. -/
def decodeBytes : List Token → Option (List Byte)
  | [] => some []
  | .byte b :: ts => (decodeBytes ts).map (b :: ·)
  | .req :: _ => none
  | .reqNack :: _ => none
  | .stop :: _ => none
  | .restart :: _ => none
  | .start :: _ => none
  | .error :: _ => none

/-- The EEPROM byte write of a complete F-EE-W: a special address selects its register, in the order of
spec/43_eeprom.md R187 (R85, R87). -/
def decodeEeWrite (p : Params) (s : Slot) (hi lo d : Byte) : Instr :=
  if cat16 hi lo = p.weHi then .eeArmHi s d
  else if cat16 hi lo = p.weLo then .eeArmLo s d
  else if cat16 hi lo = p.weData then .eeArmData s d
  else if cat16 hi lo = p.eeCtrl then .eeCtrl s d
  else .eeWriteByte s hi lo d

/-- The frame of a device and a direction from the tokens after the address byte (R85 to R93, R97). -/
def decodeBody (p : Params) (s : Slot) (k : DeviceKind) (d : Dir) (ts : List Token) : Option Instr :=
  match k, d, ts with
  | .eeprom, .write, [.byte hi, .byte lo, .byte b] => some (decodeEeWrite p s hi lo b)
  | .eeprom, .write, [.byte hi, .byte lo, .stop] => some (.eeSetCursor s hi lo .stop)
  | .eeprom, .write, [.byte hi, .byte lo, .restart] => some (.eeSetCursor s hi lo .restart)
  | .eeprom, .write, _ => none
  | .eeprom, .read, ts =>
    match decodeReqs ts with
    | some (r :: rs) => some (.eeRead s (r :: rs))
    | _ => none
  | .adc, .write, [.byte cmd] => some (.adcCmd s cmd)
  | .adc, .write, _ => none
  | .adc, .read, ts =>
    match decodeReqs ts with
    | some (r :: rs) => some (.adcRead s (r :: rs))
    | _ => none
  | .gpi, .write, [.byte m] => some (.gpiSetMask s m)
  | .gpi, .write, _ => none
  | .gpi, .read, ts =>
    match decodeReqs ts with
    | some (r :: q :: rs) => some (.gpiRead s (r :: q :: rs))
    | _ => none
  | .sram, .write, [.byte hi, .byte lo, .stop] => some (.sramSetCursor s hi lo .stop)
  | .sram, .write, [.byte hi, .byte lo, .restart] => some (.sramSetCursor s hi lo .restart)
  | .sram, .write, .byte hi :: .byte lo :: ts =>
    match decodeBytes ts with
    | some (b :: bs) => some (.sramWrite s hi lo (b :: bs))
    | _ => none
  | .sram, .write, _ => none
  | .sram, .read, ts =>
    match decodeReqs ts with
    | some (r :: rs) => some (.sramRead s (r :: rs))
    | _ => none

/-- A frame: the device is found from the address byte (R97), the roles of the other bytes from the device. -/
def decodeFrame (c : Ctx) : List Token → Except Reject Instr
  | .byte a :: ts =>
    if c.cfg.selects (windowOf a) (slotOf a) then
      match c.deviceAt (slotOf a) with
      | none => .error .emptySlot
      | some k =>
        match decodeBody c.cfg (slotOf a) k (dirOf a) ts with
        | some i => .ok i
        | none => .error .noFrame
    else .error .outsideWindow
  | _ => .error .noFrame

/-! ## The decoder and the encoder -/

/-- The operation an item of the pending input stands for in a context (R95, R97, R100). -/
def decode (c : Ctx) : PortItem → Except Reject Instr
  | .event e => .ok (decodeEvent c e)
  | .tick between => .ok (.evTick between)
  | .phase code =>
    match c.deviceAt c.slot with
    | some k => .ok (decodePhase k (phaseOf code) c.cnt)
    | none => .error .emptySlot
  | .frame ts => decodeFrame c ts

/-- The token of a read request (R11). -/
def reqToken (nacked : Bool) : Token := if nacked then .reqNack else .req

/-- The token that ends a frame (R86, R92). -/
def endToken : FrameEnd → Token
  | .stop => .stop
  | .restart => .restart

/-- A write frame: the address byte and the tokens after it. -/
def writeFrame (c : Ctx) (s : Slot) (ts : List Token) : PortItem :=
  .frame (.byte (addrByte c.cfg.base s .write) :: ts)

/-- A read frame: the address byte and the read requests. -/
def readFrame (c : Ctx) (s : Slot) (reqs : List Bool) : PortItem :=
  .frame (.byte (addrByte c.cfg.base s .read) :: reqs.map reqToken)

/-- An F-EE-W frame of an address and a data byte (R85). -/
def eeWriteFrame (c : Ctx) (s : Slot) (a : U16) (d : Byte) : PortItem :=
  writeFrame c s [.byte (hi8 a), .byte (lo8 a), .byte d]

/-- The item that stands for an operation, from the encodings of R81 to R95. -/
def encode (c : Ctx) : Instr → PortItem
  | .evAddrW b s => .event (.addr (addrByte b s .write))
  | .evAddrR b s => .event (.addr (addrByte b s .read))
  | .evDataRx rx mNack => .event (.data rx mNack)
  | .evDataTx rx mNack => .event (.data rx mNack)
  | .evStop => .event .stop
  | .evError => .event .error
  | .evTick between => .tick between
  | .eeWriteStart _ => .phase (phaseCode ⟨.write, .start⟩)
  | .eeWriteBufferFull _ => .phase (phaseCode ⟨.write, .boundary⟩)
  | .eeWriteStop _ => .phase (phaseCode ⟨.write, .stop⟩)
  | .eeWriteError _ => .phase (phaseCode ⟨.write, .error⟩)
  | .eeReadStart _ => .phase (phaseCode ⟨.read, .start⟩)
  | .eeReadBufferEmpty _ => .phase (phaseCode ⟨.read, .boundary⟩)
  | .eeReadStop _ => .phase (phaseCode ⟨.read, .stop⟩)
  | .eeReadError _ => .phase (phaseCode ⟨.read, .error⟩)
  | .adcWriteStart _ => .phase (phaseCode ⟨.write, .start⟩)
  | .adcWriteBufferFull _ => .phase (phaseCode ⟨.write, .boundary⟩)
  | .adcWriteStop _ => .phase (phaseCode ⟨.write, .stop⟩)
  | .adcWriteError _ => .phase (phaseCode ⟨.write, .error⟩)
  | .adcReadStart _ => .phase (phaseCode ⟨.read, .start⟩)
  | .adcReadBufferEmpty _ => .phase (phaseCode ⟨.read, .boundary⟩)
  | .adcReadStop _ => .phase (phaseCode ⟨.read, .stop⟩)
  | .adcReadError _ => .phase (phaseCode ⟨.read, .error⟩)
  | .gpiWriteStart _ => .phase (phaseCode ⟨.write, .start⟩)
  | .gpiWriteBufferFull _ => .phase (phaseCode ⟨.write, .boundary⟩)
  | .gpiWriteStop _ => .phase (phaseCode ⟨.write, .stop⟩)
  | .gpiWriteError _ => .phase (phaseCode ⟨.write, .error⟩)
  | .gpiReadStart _ => .phase (phaseCode ⟨.read, .start⟩)
  | .gpiReadBufferEmpty _ => .phase (phaseCode ⟨.read, .boundary⟩)
  | .gpiReadStop _ => .phase (phaseCode ⟨.read, .stop⟩)
  | .gpiReadError _ => .phase (phaseCode ⟨.read, .error⟩)
  | .sramWriteStart _ => .phase (phaseCode ⟨.write, .start⟩)
  | .sramWriteBufferFull _ => .phase (phaseCode ⟨.write, .boundary⟩)
  | .sramWriteStop _ => .phase (phaseCode ⟨.write, .stop⟩)
  | .sramWriteError _ => .phase (phaseCode ⟨.write, .error⟩)
  | .sramReadStart _ => .phase (phaseCode ⟨.read, .start⟩)
  | .sramReadBufferEmpty _ => .phase (phaseCode ⟨.read, .boundary⟩)
  | .sramReadStop _ => .phase (phaseCode ⟨.read, .stop⟩)
  | .sramReadError _ => .phase (phaseCode ⟨.read, .error⟩)
  | .eeWriteByte s hi lo d => writeFrame c s [.byte hi, .byte lo, .byte d]
  | .eeArmHi s d => eeWriteFrame c s c.cfg.weHi d
  | .eeArmLo s d => eeWriteFrame c s c.cfg.weLo d
  | .eeArmData s d => eeWriteFrame c s c.cfg.weData d
  | .eeCtrl s d => eeWriteFrame c s c.cfg.eeCtrl d
  | .eeSetCursor s hi lo fin => writeFrame c s [.byte hi, .byte lo, endToken fin]
  | .eeRead s reqs => readFrame c s reqs
  | .adcCmd s cmd => writeFrame c s [.byte cmd]
  | .adcRead s reqs => readFrame c s reqs
  | .gpiSetMask s m => writeFrame c s [.byte m]
  | .gpiRead s reqs => readFrame c s reqs
  | .sramWrite s hi lo ds => writeFrame c s (.byte hi :: .byte lo :: ds.map .byte)
  | .sramSetCursor s hi lo fin => writeFrame c s [.byte hi, .byte lo, endToken fin]
  | .sramRead s reqs => readFrame c s reqs

/-! ## Recorded bus traces (R11, R97) -/

/-- The event a token is (R11, R95): every token but `S` and `Sr` is one. A byte is a data event here; the one after a
start is the address event instead (`Heard.event`, `decodeFrame`). What the rules give no meaning is the model's choice
(log 15): a byte the master writes carries no NACK, which a read transaction would take for an `R`, and an `R` or an
`RN` carries the free value `Config.requestRx`, which a write transaction would receive. -/
def Token.event : Token → Option BusEvent
  | .byte b => some (.data b false)
  | .req => some (.data Config.requestRx false)
  | .reqNack => some (.data Config.requestRx true)
  | .stop => some .stop
  | .error => some .error
  | .restart => none
  | .start => none

/-- The token as items of the pending input: its event, if it is one. -/
def Token.items (t : Token) : List PortItem := (t.event.map .event).toList

/-- The items of one cut-out transaction `cur`, its tokens after the start condition, and the token `e` that ends it: the
row its bytes fit and its end, or the tokens whole, which are a row that shows its end, or no row. -/
def cutFrame (c : Ctx) (cur : List Token) (e : Token) : List PortItem :=
  match cur, decodeFrame c cur with
  | [], _ => e.items
  | _ :: _, .ok _ => .frame cur :: e.items
  | _ :: _, .error _ => [.frame (cur ++ [e])]

/-- The items of what is open at a token that ends a transaction: a transaction, or none. -/
def cutEnd (c : Ctx) (cur : Option (List Token)) (e : Token) : List PortItem :=
  match cur with
  | none => e.items
  | some ts => cutFrame c ts e

/-- One token of a trace: the items it completes, and the transaction open after it. Where no start condition came since
the last stop or error, a byte and a read request are data events of their own (R95, R135; vector V01). -/
def cutToken (c : Ctx) (cur : Option (List Token)) (t : Token) : List PortItem × Option (List Token) :=
  match t, cur with
  | .stop, cur => (cutEnd c cur .stop, none)
  | .error, cur => (cutEnd c cur .error, none)
  | .restart, cur => (cutEnd c cur .restart, some [])
  | .start, cur => (cutEnd c cur .start, some [])
  | t, none => (t.items, none)
  | t, some ts => ([], some (ts ++ [t]))

/-- The transaction still open at the end of a trace (R320). -/
def cutOpen : Option (List Token) → List PortItem
  | none => []
  | some [] => []
  | some (t :: ts) => [.frame (t :: ts)]

/-- The rest of a trace cut, `cur` the transaction open. -/
def cutFrom (c : Ctx) (cur : Option (List Token)) : List Token → List PortItem
  | [] => cutOpen cur
  | t :: ts => (cutToken c cur t).1 ++ cutFrom c (cutToken c cur t).2 ts

/-- A recorded bus trace cut into transactions at `S`, `Sr`, `P` and `E`, as the items of the pending input (R97). -/
def cutTrace (c : Ctx) (ts : List Token) : List PortItem := cutFrom c none ts

/-! ## The table's words -/

/-- The context right after reset (spec/70_reset_and_hazards.md R310). -/
def Ctx.atReset : Ctx where
  cfg := Config.params
  reg := Config.params.registry
  slot := 0
  dir := .write
  cnt := 0

/-- The bytes of a table word, the first byte its least significant. -/
def tableBytes (nbits w : Nat) : List Byte :=
  (List.range (nbits / 8)).map fun i => BitVec.ofNat 8 (w / 2 ^ (8 * i))

/-- The tokens of a frame's bytes after the address byte: bytes the master writes, or one read request for each byte
the block sends. -/
def tableTokens (d : Dir) (bs : List Byte) : List Token :=
  match d with
  | .write => bs.map .byte
  | .read => bs.map fun _ => .req

/-- The item of a table word (log 12). The table gives F-PHASE three bits and F-ADDR eight, and its words overlap: a
byte below 8 is taken as the F-PHASE code, any other single byte as F-ADDR, and a longer word as a frame. -/
def tableItem (nbits w : Nat) : Option PortItem :=
  match tableBytes nbits w with
  | [] => none
  | [b] => if b.toNat < 8 then some (.phase (BitVec.ofNat 3 b.toNat)) else some (.event (.addr b))
  | a :: bs => some (.frame (.byte a :: tableTokens (dirOf a) bs))

/-- The operation the decoder reads from a table word, in the context right after reset. -/
def decodeTableWord (nbits w : Nat) : Option Instr :=
  match tableItem nbits w with
  | none => none
  | some it =>
    match decode Ctx.atReset it with
    | .ok i => some i
    | .error _ => none

end Sys2Proof
end

