-- ==== Sys2Proof/Machine/State.lean ====
section
/-! DEFINITION. The state of the block (spec/10_state.md), as plain data, the reasons a run stops, and the reset state
(spec/70_reset_and_hazards.md R310). -/

namespace Sys2Proof.Machine

/-- A device-local byte space (spec/20_memory.md R60). -/
inductive Space where
  | eeStage
  | eeWin
  | adcStage
  | adcRes
  | gpiStage
  | gpiRbuf
  | sram
  | sramStage
  deriving DecidableEq, Repr

/-- A granted byte window `Win(space, base, len)` (R27): byte `i` of it is byte `base + i` of the space. -/
structure Win where
  space : Space
  base : Nat
  len : Count
  deriving DecidableEq, Repr

/-- What a device callback returns: an optional window, a capacity and an acknowledge (R110). -/
structure Answer where
  grant : Option Win
  cap : Count
  ack : Ack
  deriving DecidableEq, Repr

/-- `eng.phase` (R22). The source's `Stopped` and `Errored` never outlive a step (D5). -/
inductive EnginePhase where
  | idle
  | addressed
  | exchanging
  deriving DecidableEq, Repr

/-- The Transaction Engine's registers (R22 to R27). -/
structure Engine where
  phase : EnginePhase
  slot : Slot
  dir : Dir
  /-- `bytesTransferred` since the last grant (R25). -/
  cnt : Count
  /-- `bufferCapacity` left (R26). -/
  rem : Count
  grant : Option Win
  deriving DecidableEq, Repr

/-- The Bus Watchdog (R29); `count` is a count of ticks (log 8). -/
structure Watchdog where
  enabled : Bool
  count : Nat
  deriving DecidableEq, Repr

/-- The EEPROM device (R32). -/
structure Eeprom where
  cursor : U16
  arm : Arm
  stage : Vector Byte 3
  win : List Byte
  deriving DecidableEq, Repr

/-- The ADC device (R33). -/
structure Adc where
  se : Bool
  chan : BitVec 3
  ref : BitVec 1
  stage : Byte
  res : Byte
  deriving DecidableEq, Repr

/-- The GPI device (R34). -/
structure Gpi where
  cur : Byte
  prev : Byte
  trans : Byte
  mask : Byte
  armed : Bool
  stage : Byte
  rbuf : Vector Byte 2
  deriving DecidableEq, Repr

/-- `sram.wphase` (R35). -/
inductive WPhase where
  | addrPhase
  | dataPhase
  deriving DecidableEq, Repr

/-- The cells of a byte memory in the canonical form of `Memory.wf`. -/
abbrev Memory := List Host.Cell

/-- The SRAM device (R35). -/
structure Sram where
  mem : Memory
  cursor : U9
  wphase : WPhase
  stage : Vector Byte 2
  deriving DecidableEq, Repr

/-- A record of the observation log (R43). -/
inductive Record where
  | call (slot : Slot) (ph : Phase) (n : Count)
  | ack (a : Ack)
  | tx (b : Byte)
  | persistWrite (a : U16) (v : Byte)
  | superviseCtrl (v : Byte)
  | periphRestart
  | irq (level : Bool)
  deriving DecidableEq, Repr

/-- Why a run ends faulted: the one fault of the spec (R285). -/
inductive Fault where
  /-- `Fault(GrantMalformed)`: raised by `Call` when a device's grant is not well formed (R111, R122). Safe: the four
  devices never raise it, and a run that does is never final (R285, R320). -/
  | grantMalformed
  deriving DecidableEq, Repr

/-- Why a step gives no meaning. -/
inductive Refusal where
  /-- Raised by `exec` for an instruction that has no meaning yet. Safe: nothing is claimed of it. No arm raises it. -/
  | notModelled (mnemonic : String)
  deriving DecidableEq, Repr

/-- The state of the block: the spec's own (R22 to R35, R43, R310), then the model's own. -/
structure State where
  eng : Engine
  wd : Watchdog
  /-- `tk.gpiCount`: ticks since the last periodic GPI sample (R30). -/
  gpiCount : Nat
  reg : Registry
  ee : Eeprom
  adc : Adc
  gpi : Gpi
  sram : Sram
  /-- The observation log, oldest record first (R43). -/
  log : List Record
  /-- The sticky fault (R285, R310). -/
  fault : Option Fault
  /-- The model's own (log 2): the parameters, which no step writes. -/
  cfg : Params
  /-- The model's own (log 1): the pending input, oldest item first. -/
  inbox : List PortItem
  /-- The model's own (log 3): the answers the next collaborator reads get, in order. -/
  draws : List Byte
  /-- The model's own (log 3): the collaborator reads made, in order. -/
  asked : List Request
  /-- The model's own (log 10): what the last phase handler run alone returned. -/
  ans : Answer
  deriving DecidableEq, Repr

/-- The reset state of R310 for any parameters and any initial SRAM contents. The bytes R310 leaves unspecified are
0x00 (log 5). -/
def State.resetWith (p : Params) (mem : Memory) : State where
  eng := { phase := .idle, slot := 0, dir := .write, cnt := 0, rem := 0, grant := none }
  wd := { enabled := false, count := 0 }
  gpiCount := 0
  reg := p.registry
  ee := { cursor := 0, arm := ⟨none, none, none⟩, stage := #v[0, 0, 0], win := List.replicate p.eeWindow.toNat 0 }
  adc :=
    { se := p.adcResetCmd.getLsbD 7 == p.adcSeValue
      chan := p.adcResetCmd.extractLsb' 4 3
      ref := p.adcResetCmd.extractLsb' 3 1
      stage := 0
      res := 0 }
  gpi := { cur := 0, prev := 0, trans := 0, mask := 0, armed := false, stage := 0, rbuf := #v[0, 0] }
  sram := { mem := mem, cursor := 0, wphase := .addrPhase, stage := #v[0, 0] }
  log := []
  fault := none
  cfg := p
  inbox := []
  draws := []
  asked := []
  ans := { grant := none, cap := 0, ack := .nack }

/-- The machine right after reset (R310): any value of the OPEN parameters (log 2), every SRAM byte a draw (log 4). -/
def State.reset : State := State.resetWith Config.params Config.sramPowerUp

/-! ## Named updates

Every meaning updates the state through these; Laws/State.lean has their field lemmas. -/

/-- The engine registers replaced. -/
def State.setEng (e : Engine) (s : State) : State := { s with eng := e }

/-- The watchdog replaced. -/
def State.setWd (w : Watchdog) (s : State) : State := { s with wd := w }

/-- `tk.gpiCount` replaced. -/
def State.setGpiCount (n : Nat) (s : State) : State := { s with gpiCount := n }

/-- The EEPROM's state replaced. -/
def State.setEe (d : Eeprom) (s : State) : State := { s with ee := d }

/-- The ADC's state replaced. -/
def State.setAdc (d : Adc) (s : State) : State := { s with adc := d }

/-- The GPI's state replaced. -/
def State.setGpi (d : Gpi) (s : State) : State := { s with gpi := d }

/-- The SRAM's state replaced. -/
def State.setSram (d : Sram) (s : State) : State := { s with sram := d }

/-- A record appended to the observation log (R43). -/
def State.emit (r : Record) (s : State) : State := { s with log := s.log ++ [r] }

/-- The fault recorded. -/
def State.setFault (f : Option Fault) (s : State) : State := { s with fault := f }

/-- The pending input replaced. -/
def State.setInbox (q : List PortItem) (s : State) : State := { s with inbox := q }

/-- One collaborator read made: its request recorded, the head of the scripted answers used up (log 3). -/
def State.noteRead (q : Request) (s : State) : State := { s with draws := s.draws.tail, asked := s.asked ++ [q] }

/-- The answer of a phase handler run alone (log 10). -/
def State.setAns (a : Answer) (s : State) : State := { s with ans := a }

/-- What decoding reads of the state. -/
def State.ctx (s : State) : Ctx where
  cfg := s.cfg
  reg := s.reg
  slot := s.eng.slot
  dir := s.eng.dir
  cnt := s.eng.cnt

end Sys2Proof.Machine
end

