-- ==== Sys2Proof/Machine/Ops.lean ====
section
/-! DEFINITION. The named operations: the fault, the collaborator reads, the canonical memory, and the watchdog and
transaction helpers of spec/41_transaction_engine.md R139 and R140. -/

namespace Sys2Proof.Machine

/-! ## Raising a fault

The block has no trap, no vector and no saved program counter, and a handler returns by ending (spec/60_exceptions.md
R293 to R295): raising the fault is all the exception entry there is, and nothing returns from it. -/

/-- `raise Fault(reason)`: the fault is sticky, so the first one stays (spec/00_scope.md R10, R285). The rest of the
state is as it stood at the raise (R294). -/
def State.raise (f : Fault) (s : State) : State :=
  match s.fault with
  | none => s.setFault (some f)
  | some _ => s

/-! ## Collaborator reads (R8) -/

/-- The answer a collaborator gives to a read now: the scripted one, else the free value (log 3). -/
def State.answerTo (q : Request) (s : State) : Byte :=
  match s.draws with
  | b :: _ => b
  | [] => Config.collabAnswer s.asked.length q

/-- One collaborator read: its answer and the state after it. -/
def State.ask (q : Request) (s : State) : Byte × State :=
  (s.answerTo q, s.noteRead q)

/-! ## Memory -/

/-- What an address that is not listed reads as: 0x00, a convention of the representation; the reset contents list
every byte that is not 0x00 (log 4). -/
def Memory.unlisted : Byte := 0x00

/-- `MemRead` of one byte (R60). -/
def Memory.read (a : Nat) : Memory → Byte
  | [] => Memory.unlisted
  | (k, b) :: rest => if k = a then b else Memory.read a rest

/-- The cell of an address before the rest; none where the byte is what an unlisted address reads as. -/
def Memory.cell (a : Nat) (v : Byte) (rest : Memory) : Memory :=
  if v = Memory.unlisted then rest else (a, v) :: rest

/-- `MemWrite` of one byte (R60), in the canonical form. -/
def Memory.write (a : Nat) (v : Byte) : Memory → Memory
  | [] => Memory.cell a v []
  | (k, b) :: rest =>
    if k < a then (k, b) :: Memory.write a v rest
    else if k = a then Memory.cell a v rest
    else Memory.cell a v ((k, b) :: rest)

/-- Every listed address is at least `lo` and below `hi`, the addresses rise strictly, and no cell holds the byte an
unlisted address reads as. -/
def Memory.wfFrom (hi : Nat) : Nat → Memory → Bool
  | _, [] => true
  | lo, (k, b) :: rest => decide (lo ≤ k) && decide (k < hi) && b != Memory.unlisted && Memory.wfFrom hi (k + 1) rest

/-- The canonical form of a memory of 512 bytes (R35, R62). -/
def Memory.wf (m : Memory) : Bool := Memory.wfFrom Config.sramSize 0 m

/-! ## Watchdog and transaction helpers -/

/-- `Rearm()` (R139). -/
def State.rearm (s : State) : State :=
  s.setWd { enabled := true, count := s.cfg.timeout }

/-- `Clear()` (R140): `eng.slot` and `eng.dir` keep their values. -/
def State.clear (s : State) : State :=
  (s.setEng { s.eng with phase := .idle, cnt := 0, rem := 0, grant := none }).setWd { enabled := false, count := 0 }

/-- The grant and the capacity of an answer installed, the count at 0 (R131, R133, R134). -/
def State.install (a : Answer) (s : State) : State :=
  s.setEng { s.eng with grant := a.grant, rem := a.cap, cnt := 0 }

/-- One granted byte counted (R25, R26). -/
def State.countByte (s : State) : State :=
  s.setEng { s.eng with cnt := s.eng.cnt + 1, rem := s.eng.rem - 1 }

/-- A device kind sits in some slot (R163). -/
def State.holds (k : DeviceKind) (s : State) : Bool :=
  s.reg[0] == some k || s.reg[1] == some k || s.reg[2] == some k || s.reg[3] == some k

/-! ## Answers of a device (R110, R113) -/

/-- `(Win(space, base, cap), cap, Ack)`. -/
def Answer.window (sp : Space) (base : Nat) (cap : Count) : Answer :=
  { grant := some { space := sp, base := base, len := cap }, cap := cap, ack := .ack }

/-- `(None, 0, ack)`: capacity 0. -/
def Answer.refuse (a : Ack) : Answer :=
  { grant := none, cap := 0, ack := a }

end Sys2Proof.Machine
end

