-- ==== Sys2Proof/Machine/Flags.lean ====
section
/-! DEFINITION. The flags that are computed (spec/10_state.md R36, R38): the GPI interrupt line, the arm match, the
pending restart Stop, and the error causes of spec/60_exceptions.md R280. -/

namespace Sys2Proof.Machine

/-- `gpi.irq` (spec/45_gpi.md R241). -/
def Gpi.irq (g : Gpi) : Bool := g.armed && (g.trans &&& g.mask) != 0

/-- The electrical level of the GPI line: `P_GPI_IRQ_LEVEL` when it is asserted (R241, R289). -/
def State.irqPin (s : State) : Bool := s.gpi.irq == s.cfg.gpiIrqLevel

/-- The GPI's state replaced, and a change of the line's level logged (R43, R241). -/
def State.putGpi (g : Gpi) (s : State) : State :=
  if g.irq = s.gpi.irq then s.setGpi g else (s.setGpi g).emit (.irq g.irq)

/-- The arm registers hold exactly the address and the data (spec/43_eeprom.md R184). -/
def armConfirms (m : Arm) (a : U16) (d : Byte) : Bool :=
  m.hi == some (hi8 a) && m.lo == some (lo8 a) && m.data == some d

/-- A restart needs a Stop first (R38, R131). -/
def Engine.stopPending (e : Engine) : Bool := e.phase != .idle && e.cnt != 0

/-- The causes of spec/60_exceptions.md R280; none of them is stored (R281, D34). -/
inductive ErrorCause where
  | protocol
  | timeout
  | policy
  | unregistered
  deriving DecidableEq, Repr

end Sys2Proof.Machine
end

