-- ==== Sys2Proof/Machine/Operands.lean ====
section
/-! DEFINITION. The operands: the byte spaces and their grants (spec/20_memory.md R60, spec/40_device_contract.md
R122), and the engine's access to the granted byte (R40). -/

namespace Sys2Proof.Machine

/-- The size of a space in bytes (R60). -/
def Space.size (p : Params) : Space → Nat
  | .eeStage => 3
  | .eeWin => p.eeWindow.toNat
  | .adcStage => 1
  | .adcRes => 1
  | .gpiStage => 1
  | .gpiRbuf => 2
  | .sram => Config.sramSize
  | .sramStage => 2

/-- The device a space belongs to (R60). -/
def Space.owner : Space → DeviceKind
  | .eeStage => .eeprom
  | .eeWin => .eeprom
  | .adcStage => .adc
  | .adcRes => .adc
  | .gpiStage => .gpi
  | .gpiRbuf => .gpi
  | .sram => .sram
  | .sramStage => .sram

/-- `MemRead(space, i, 1)` (R60); none where the space has no byte `i`. The SRAM index wraps modulo 512 (R62). -/
def State.readByte (sp : Space) (i : Nat) (s : State) : Option Byte :=
  match sp with
  | .eeStage => s.ee.stage[i]?
  | .eeWin => s.ee.win[i]?
  | .adcStage => if i = 0 then some s.adc.stage else none
  | .adcRes => if i = 0 then some s.adc.res else none
  | .gpiStage => if i = 0 then some s.gpi.stage else none
  | .gpiRbuf => s.gpi.rbuf[i]?
  | .sram => some (Memory.read (i % Config.sramSize) s.sram.mem)
  | .sramStage => s.sram.stage[i]?

/-- `MemWrite(space, i, 1, v)` (R60), for a byte the space has. -/
def State.storeByte (sp : Space) (i : Nat) (v : Byte) (s : State) : State :=
  match sp with
  | .eeStage => s.setEe { s.ee with stage := s.ee.stage.setIfInBounds i v }
  | .eeWin => s.setEe { s.ee with win := s.ee.win.set i v }
  | .adcStage => s.setAdc { s.adc with stage := v }
  | .adcRes => s.setAdc { s.adc with res := v }
  | .gpiStage => s.setGpi { s.gpi with stage := v }
  | .gpiRbuf => s.setGpi { s.gpi with rbuf := s.gpi.rbuf.setIfInBounds i v }
  | .sram => s.setSram { s.sram with mem := Memory.write (i % Config.sramSize) v s.sram.mem }
  | .sramStage => s.setSram { s.sram with stage := s.sram.stage.setIfInBounds i v }

/-- The grant of an answer with capacity `cap > 0` is well formed for the device that returned it (R122). -/
def Answer.grantOk (p : Params) (k : DeviceKind) (a : Answer) : Bool :=
  match a.grant with
  | none => false
  | some w => decide (w.base + a.cap.toNat ≤ w.space.size p) && w.len == a.cap && w.space.owner == k

/-- The space and index of the byte due in the live grant: byte `base + eng.cnt` (R40, R60). -/
def State.dueByte (s : State) : Option (Space × Nat) :=
  match s.eng.grant with
  | none => none
  | some w =>
    if w.base + s.eng.cnt.toNat < w.space.size s.cfg then some (w.space, w.base + s.eng.cnt.toNat) else none

/-- The granted byte due (R133). -/
def State.grantedByte (s : State) : Option Byte :=
  match s.dueByte with
  | none => none
  | some (sp, i) => s.readByte sp i

end Sys2Proof.Machine
end

