-- ==== Sys2Proof/Machine/Adc.lean ====
section
/-! DEFINITION. The ADC device (spec/44_adc.md): the conversion and the 8 phase handlers. -/

namespace Sys2Proof.Machine

/-- The hardware channel id of a logical channel: `P_ADC_MAP[c]` (R220). -/
def hwChannel (p : Params) (c : BitVec 3) : Nat := p.adcMap[c.toNat]

/-- The pair of a channel: `c XOR 0b100` (R220). -/
def pairOf (c : BitVec 3) : BitVec 3 := c ^^^ 0b100

/-- The signed difference of a channel's sample `a` and its pair's `b`, by the low mux bit of the logical channel and
the polarity (R220). -/
def adcDiff (p : Params) (c : BitVec 3) (a b : Byte) : Int :=
  match p.adcDiffPol, c.getLsbD 0 with
  | .setIsChanMinusPair, true => (a.toNat : Int) - b.toNat
  | .setIsChanMinusPair, false => (b.toNat : Int) - a.toNat
  | .setIsPairMinusChan, true => (b.toNat : Int) - a.toNat
  | .setIsPairMinusChan, false => (a.toNat : Int) - b.toNat

/-- `P_ADC_DIFF_ENC` (R7, R220): the default is `d mod 256`. -/
def adcEncode (p : Params) (d : Int) : Byte :=
  match p.adcDiffEnc with
  | .mod256 => BitVec.ofInt 8 d
  | .table entries => entries[(d + 255).toNat % 511]'(Nat.mod_lt _ (by decide))

/-- `Collab.adcSample(P_ADC_MAP[c], adc.ref)` (R220). -/
def adcSampleReq (s : State) (c : BitVec 3) : Request := .adcSample (hwChannel s.cfg c) s.adc.ref

/-- `AdcConvert()` (R220): one sample when single-ended; else the channel's, then its pair's. -/
def adcConvert (s : State) : Byte × State :=
  if s.adc.se then s.ask (adcSampleReq s s.adc.chan)
  else
    let a := s.ask (adcSampleReq s s.adc.chan)
    let b := a.2.ask (adcSampleReq s (pairOf s.adc.chan))
    (adcEncode s.cfg (adcDiff s.cfg s.adc.chan a.1 b.1), b.2)

/-- The fields of a command byte (spec/30_encoding.md R88): bits 2:0 are ignored. -/
def adcConfigure (p : Params) (b : Byte) (d : Adc) : Adc :=
  { d with se := b.getLsbD 7 == p.adcSeValue, chan := b.extractLsb' 4 3, ref := b.extractLsb' 3 1 }

/-- `ADC.WriteStart(n)` (R221). -/
def adcWriteStart (_n : Count) (s : State) : Answer × State :=
  (.window .adcStage 0 1, s)

/-- `ADC.WriteBufferFull(n)` (R222). -/
def adcWriteBufferFull (_n : Count) (s : State) : Answer × State :=
  (.refuse .ack, s.setAdc (adcConfigure s.cfg s.adc.stage s.adc))

/-- `ADC.WriteStop(n)` (R223); the Ack returned is the
model's choice (log 10), read by no caller (R115, R121). -/
def adcWriteStop (_n : Count) (s : State) : Answer × State :=
  (.refuse .ack, s)

/-- `ADC.WriteError(n)` (R224); the Ack returned is the
model's choice (log 10), read by no caller (R115, R121). -/
def adcWriteError (_n : Count) (s : State) : Answer × State :=
  (.refuse .ack, s)

/-- `ADC.ReadStart(n)` (R225): the conversion runs here. -/
def adcReadStart (_n : Count) (s : State) : Answer × State :=
  let r := adcConvert s
  (.window .adcRes 0 1, r.2.setAdc { r.2.adc with res := r.1 })

/-- `ADC.ReadBufferEmpty(n)` (R226). -/
def adcReadBufferEmpty (_n : Count) (s : State) : Answer × State :=
  (.refuse .ack, s)

/-- `ADC.ReadStop(n)` (R227); the Ack returned is the
model's choice (log 10), read by no caller (R115, R121). -/
def adcReadStop (_n : Count) (s : State) : Answer × State :=
  (.refuse .ack, s)

/-- `ADC.ReadError(n)` (R228); the Ack returned is the
model's choice (log 10), read by no caller (R115, R121). -/
def adcReadError (_n : Count) (s : State) : Answer × State :=
  (.refuse .ack, s)

end Sys2Proof.Machine
end

