-- ==== Sys2Proof/Machine/Eeprom.lean ====
section
/-! DEFINITION. The EEPROM device (spec/43_eeprom.md): the region map, the write policy and the 8 phase handlers. A
handler takes reportedByteCount and returns its answer and the state after it (spec/40_device_contract.md R110). -/

namespace Sys2Proof.Machine

/-- The entry of `P_EE_REGIONS` that holds an address; none is "unmapped" (R180). -/
def regionAt (p : Params) (a : U16) : Option Region :=
  p.eeRegions.find? fun r => r.lo.ule a && a.ule r.hi

/-- The index of an address in its entry's backing store: `off + (a - lo)`, a u16 (R181, R8, log 23). -/
def regionIndex (r : Region) (a : U16) : U16 := r.off + (a - r.lo)

/-- `EeByte(a)` (R181), and the state after its collaborator read. -/
def eeByte (a : U16) (s : State) : Byte × State :=
  match regionAt s.cfg a with
  | none => (s.cfg.eeFill, s)
  | some r =>
    match r.kind with
    | .persist => s.ask (.persistRead (regionIndex r a))
    | .program => s.ask (.progRead (regionIndex r a))
    | .snapshot => s.ask (.regSnap (regionIndex r a))
    | .fillr => (s.cfg.eeFill, s)

/-- `EeByte` of `k` addresses from `a` on, modulo 65536, in order (R185). -/
def eeBytes : Nat → U16 → State → List Byte × State
  | 0, _, s => ([], s)
  | k + 1, a, s => ((eeByte a s).1 :: (eeBytes k (a + 1) (eeByte a s).2).1, (eeBytes k (a + 1) (eeByte a s).2).2)

/-- `FillWindow(c)` (R185). -/
def fillWindow (c : U16) (s : State) : State :=
  (eeBytes s.cfg.eeWindow.toNat c s).2.setEe
    { (eeBytes s.cfg.eeWindow.toNat c s).2.ee with win := (eeBytes s.cfg.eeWindow.toNat c s).1 }

/-- The write policy accepts the byte (R184): `OPEN` always, `PROTECTED` with the matching arm, anything else never. -/
def eeAccepts (a : U16) (d : Byte) (s : State) : Bool :=
  match regionAt s.cfg a with
  | none => false
  | some r =>
    match r.kind, r.access with
    | .persist, .openAccess => true
    | .persist, .protect => armConfirms s.ee.arm a d
    | .persist, .ro => false
    | .program, _ => false
    | .snapshot, _ => false
    | .fillr, _ => false

/-- The index a committed byte goes to in the persistent store (R184). -/
def eeStoreIndex (p : Params) (a : U16) : U16 :=
  match regionAt p a with
  | none => a
  | some r => regionIndex r a

/-- `EeWrite(A, d)` (R184): commit or reject, and clear the arm either way. -/
def eeWrite (a : U16) (d : Byte) (s : State) : Ack × State :=
  if eeAccepts a d s then
    (.ack, (s.emit (.persistWrite (eeStoreIndex s.cfg a) d)).setEe { s.ee with arm := s.cfg.armClear })
  else (.nack, s.setEe { s.ee with arm := s.cfg.armClear })

/-- `P_EE_WINDOW` bytes of the window granted (R190, R191). -/
def eeWindowAnswer (s : State) : Answer := .window .eeWin 0 s.cfg.eeWindow

/-- The address the staged bytes give (R187, R188). -/
def Eeprom.stagedAddr (e : Eeprom) : U16 := cat16 e.stage[0] e.stage[1]

/-- `EE.WriteStart(n)` (R186). -/
def eeWriteStart (_n : Count) (s : State) : Answer × State :=
  (.window .eeStage 0 3, s)

/-- The write of a complete F-EE-W: the special addresses first, in R187's order. -/
def eeCommit (a : U16) (d : Byte) (s : State) : Ack × State :=
  if a = s.cfg.weHi then (.ack, s.setEe { s.ee with arm := { s.ee.arm with hi := some d } })
  else if a = s.cfg.weLo then (.ack, s.setEe { s.ee with arm := { s.ee.arm with lo := some d } })
  else if a = s.cfg.weData then (.ack, s.setEe { s.ee with arm := { s.ee.arm with data := some d } })
  else if a = s.cfg.eeCtrl then (.ack, s.emit (.superviseCtrl d))
  else eeWrite a d s

/-- `EE.WriteBufferFull(n)` (R187). -/
def eeWriteBufferFull (_n : Count) (s : State) : Answer × State :=
  let r := eeCommit s.ee.stagedAddr s.ee.stage[2] (s.setEe { s.ee with cursor := s.ee.stagedAddr })
  (.refuse r.1, r.2)

/-- `EE.WriteStop(n)` (R188): two staged bytes set the cursor; the Ack returned is the
model's choice (log 10), read by no caller (R115, R121). -/
def eeWriteStop (n : Count) (s : State) : Answer × State :=
  (.refuse .ack, if 2 ≤ n.toNat then s.setEe { s.ee with cursor := s.ee.stagedAddr } else s)

/-- `EE.WriteError(n)` (R189): nothing changes; the Ack returned is the
model's choice (log 10), read by no caller (R115, R121). -/
def eeWriteError (_n : Count) (s : State) : Answer × State :=
  (.refuse .ack, s)

/-- `EE.ReadStart(n)` (R190). -/
def eeReadStart (_n : Count) (s : State) : Answer × State :=
  (eeWindowAnswer s, fillWindow s.ee.cursor s)

/-- The cursor advanced by the bytes consumed, modulo 65536 (R191 to R193). -/
def eeAdvance (n : Count) (s : State) : State :=
  s.setEe { s.ee with cursor := s.ee.cursor + n }

/-- `EE.ReadBufferEmpty(n)` (R191). -/
def eeReadBufferEmpty (n : Count) (s : State) : Answer × State :=
  (eeWindowAnswer s, fillWindow (s.ee.cursor + n) (eeAdvance n s))

/-- `EE.ReadStop(n)` (R192); the Ack returned is the
model's choice (log 10), read by no caller (R115, R121). -/
def eeReadStop (n : Count) (s : State) : Answer × State :=
  (.refuse .ack, eeAdvance n s)

/-- `EE.ReadError(n)` (R193); the Ack returned is the
model's choice (log 10), read by no caller (R115, R121). -/
def eeReadError (n : Count) (s : State) : Answer × State :=
  (.refuse .ack, eeAdvance n s)

end Sys2Proof.Machine
end

