-- ==== Sys2Proof/Machine/Gpi.lean ====
section
/-! DEFINITION. The GPI device (spec/45_gpi.md): the sampling and the 8 phase handlers. Every write of a field the
interrupt line depends on goes through `State.putGpi`, which logs a change of the line. -/

namespace Sys2Proof.Machine

/-- `Sample()` on the GPI's fields, the pins read as `v` (R240). -/
def Gpi.sampled (v : Byte) (g : Gpi) : Gpi :=
  { g with prev := g.cur, cur := v, trans := g.trans ||| (v ^^^ g.cur) }

/-- `Sample()` (R240). -/
def gpiSample (s : State) : State :=
  let r := s.ask .pinRead
  r.2.putGpi (Gpi.sampled r.1 r.2.gpi)

/-- The end of a GPI transaction: signalling enabled again, then a re-sample (R244, R245, R248, R249). -/
def gpiFinish (s : State) : State :=
  gpiSample (s.putGpi { s.gpi with armed := true })

/-- `GPI.WriteStart(n)` (R242): signalling disabled while the write is in progress. -/
def gpiWriteStart (_n : Count) (s : State) : Answer × State :=
  (.window .gpiStage 0 1, s.putGpi { s.gpi with armed := false })

/-- `GPI.WriteBufferFull(n)` (R243). -/
def gpiWriteBufferFull (_n : Count) (s : State) : Answer × State :=
  (.refuse .ack, s.putGpi { s.gpi with mask := s.gpi.stage })

/-- `GPI.WriteStop(n)` (R244); the Ack returned is the
model's choice (log 10), read by no caller (R115, R121). -/
def gpiWriteStop (_n : Count) (s : State) : Answer × State :=
  (.refuse .ack, gpiFinish s)

/-- `GPI.WriteError(n)` (R245); the Ack returned is the
model's choice (log 10), read by no caller (R115, R121). -/
def gpiWriteError (_n : Count) (s : State) : Answer × State :=
  (.refuse .ack, gpiFinish s)

/-- The response captured and the latch cleared (R246). -/
def Gpi.captured (g : Gpi) : Gpi :=
  { g with rbuf := #v[g.cur, g.trans], trans := 0 }

/-- `GPI.ReadStart(n)` (R246). -/
def gpiReadStart (_n : Count) (s : State) : Answer × State :=
  let t := gpiSample (s.putGpi { s.gpi with armed := false })
  (.window .gpiRbuf 0 2, t.putGpi t.gpi.captured)

/-- `GPI.ReadBufferEmpty(n)` (R247). -/
def gpiReadBufferEmpty (_n : Count) (s : State) : Answer × State :=
  (.refuse .ack, s)

/-- `GPI.ReadStop(n)` (R248); the Ack returned is the
model's choice (log 10), read by no caller (R115, R121). -/
def gpiReadStop (_n : Count) (s : State) : Answer × State :=
  (.refuse .ack, gpiFinish s)

/-- `GPI.ReadError(n)` (R249); the Ack returned is the
model's choice (log 10), read by no caller (R115, R121). -/
def gpiReadError (_n : Count) (s : State) : Answer × State :=
  (.refuse .ack, gpiFinish s)

end Sys2Proof.Machine
end

