-- ==== Sys2Proof/Machine/Sram.lean ====
section
/-! DEFINITION. The SRAM device (spec/46_sram.md): the windows and the 8 phase handlers. -/

namespace Sys2Proof.Machine

/-- A count of bytes as a 9-bit step of the cursor: arithmetic modulo 512 (R264, R270). -/
def cursorStep (n : Count) : U9 := n.setWidth 9

/-- The write data window at a cursor: to the top of the array, no page cap (R261, R263). -/
def sramWriteWindow (c : U9) : Answer :=
  .window .sram c.toNat (BitVec.ofNat 16 (Config.sramSize - c.toNat))

/-- `Len(c) = min(512 - c, P_SRAM_PAGE)` (R263). -/
def sramLen (p : Params) (c : U9) : Nat := min (Config.sramSize - c.toNat) p.sramPage

/-- The read window at a cursor (R263, R266). -/
def sramReadWindow (p : Params) (c : U9) : Answer :=
  .window .sram c.toNat (BitVec.ofNat 16 (sramLen p c))

/-- The cursor advanced modulo 512 (R262, R264, R267, R268). -/
def sramAdvance (n : Count) (s : State) : State :=
  s.setSram { s.sram with cursor := s.sram.cursor + cursorStep n }

/-- The cursor the staged address gives: `{AddrHi, AddrLo} mod 512` (R261). -/
def Sram.stagedCursor (d : Sram) : U9 := (cat16 d.stage[0] d.stage[1]).setWidth 9

/-- `SRAM.WriteStart(n)` (R260). -/
def sramWriteStart (_n : Count) (s : State) : Answer × State :=
  (.window .sramStage 0 2, s.setSram { s.sram with wphase := .addrPhase })

/-- `SRAM.WriteBufferFull(n)`: the address phase (R261) or a data window that ended at the top (R262). -/
def sramWriteBufferFull (n : Count) (s : State) : Answer × State :=
  match s.sram.wphase with
  | .addrPhase =>
    (sramWriteWindow s.sram.stagedCursor, s.setSram { s.sram with cursor := s.sram.stagedCursor, wphase := .dataPhase })
  | .dataPhase => (sramWriteWindow 0, sramAdvance n s)

/-- The cursor moved over the data bytes of an unfinished window, in the data phase only (R264). -/
def sramWriteEnd (n : Count) (s : State) : State :=
  match s.sram.wphase with
  | .addrPhase => s
  | .dataPhase => sramAdvance n s

/-- `SRAM.WriteStop(n)` (R264); the Ack returned is the
model's choice (log 10), read by no caller (R115, R121). -/
def sramWriteStop (n : Count) (s : State) : Answer × State :=
  (.refuse .ack, sramWriteEnd n s)

/-- `SRAM.WriteError(n)` (R265); the Ack returned is the
model's choice (log 10), read by no caller (R115, R121). -/
def sramWriteError (n : Count) (s : State) : Answer × State :=
  (.refuse .ack, sramWriteEnd n s)

/-- `SRAM.ReadStart(n)` (R266). -/
def sramReadStart (_n : Count) (s : State) : Answer × State :=
  (sramReadWindow s.cfg s.sram.cursor, s)

/-- `SRAM.ReadBufferEmpty(n)` (R267). -/
def sramReadBufferEmpty (n : Count) (s : State) : Answer × State :=
  (sramReadWindow s.cfg (s.sram.cursor + cursorStep n), sramAdvance n s)

/-- `SRAM.ReadStop(n)` (R268); the Ack returned is the
model's choice (log 10), read by no caller (R115, R121). -/
def sramReadStop (n : Count) (s : State) : Answer × State :=
  (.refuse .ack, sramAdvance n s)

/-- `SRAM.ReadError(n)` (R269); the Ack returned is the
model's choice (log 10), read by no caller (R115, R121). -/
def sramReadError (n : Count) (s : State) : Answer × State :=
  (.refuse .ack, sramAdvance n s)

end Sys2Proof.Machine
end

