-- ==== Sys2Proof/Machine/Contract.lean ====
section
/-! DEFINITION. The Device Contract (spec/40_device_contract.md): `Call`, the dispatch to the device of a slot, and the
check of its answer. -/

namespace Sys2Proof.Machine

/-- `Handler(k, ph, n)` (R111): all 8 phases at every device kind (R112). -/
def handler (k : DeviceKind) (ph : Phase) (n : Count) (s : State) : Answer × State :=
  match k, ph with
  | .eeprom, ⟨.write, .start⟩ => eeWriteStart n s
  | .eeprom, ⟨.write, .boundary⟩ => eeWriteBufferFull n s
  | .eeprom, ⟨.write, .stop⟩ => eeWriteStop n s
  | .eeprom, ⟨.write, .error⟩ => eeWriteError n s
  | .eeprom, ⟨.read, .start⟩ => eeReadStart n s
  | .eeprom, ⟨.read, .boundary⟩ => eeReadBufferEmpty n s
  | .eeprom, ⟨.read, .stop⟩ => eeReadStop n s
  | .eeprom, ⟨.read, .error⟩ => eeReadError n s
  | .adc, ⟨.write, .start⟩ => adcWriteStart n s
  | .adc, ⟨.write, .boundary⟩ => adcWriteBufferFull n s
  | .adc, ⟨.write, .stop⟩ => adcWriteStop n s
  | .adc, ⟨.write, .error⟩ => adcWriteError n s
  | .adc, ⟨.read, .start⟩ => adcReadStart n s
  | .adc, ⟨.read, .boundary⟩ => adcReadBufferEmpty n s
  | .adc, ⟨.read, .stop⟩ => adcReadStop n s
  | .adc, ⟨.read, .error⟩ => adcReadError n s
  | .gpi, ⟨.write, .start⟩ => gpiWriteStart n s
  | .gpi, ⟨.write, .boundary⟩ => gpiWriteBufferFull n s
  | .gpi, ⟨.write, .stop⟩ => gpiWriteStop n s
  | .gpi, ⟨.write, .error⟩ => gpiWriteError n s
  | .gpi, ⟨.read, .start⟩ => gpiReadStart n s
  | .gpi, ⟨.read, .boundary⟩ => gpiReadBufferEmpty n s
  | .gpi, ⟨.read, .stop⟩ => gpiReadStop n s
  | .gpi, ⟨.read, .error⟩ => gpiReadError n s
  | .sram, ⟨.write, .start⟩ => sramWriteStart n s
  | .sram, ⟨.write, .boundary⟩ => sramWriteBufferFull n s
  | .sram, ⟨.write, .stop⟩ => sramWriteStop n s
  | .sram, ⟨.write, .error⟩ => sramWriteError n s
  | .sram, ⟨.read, .start⟩ => sramReadStart n s
  | .sram, ⟨.read, .boundary⟩ => sramReadBufferEmpty n s
  | .sram, ⟨.read, .stop⟩ => sramReadStop n s
  | .sram, ⟨.read, .error⟩ => sramReadError n s

/-- What `Call` comes to: an answer, or a fault raised at the call (R111, R294). -/
inductive CallResult where
  | answered (a : Answer) (s : State)
  | raised (s : State)
  deriving DecidableEq, Repr

/-- The state after a call. -/
def CallResult.state : CallResult → State
  | .answered _ s => s
  | .raised s => s

/-- What `Call` makes of a handler's answer (R111): a Stop or Error answer keeps its ack alone, capacity 0 drops the
window, any other window is checked (R122). -/
def settleAnswer (k : DeviceKind) (ph : Phase) (a : Answer) (s : State) : CallResult :=
  match ph.kind with
  | .stop => .answered (.refuse a.ack) s
  | .error => .answered (.refuse a.ack) s
  | .start => if a.cap = 0 then .answered (.refuse a.ack) s else
      if a.grantOk s.cfg k then .answered a s else .raised (s.raise .grantMalformed)
  | .boundary => if a.cap = 0 then .answered (.refuse a.ack) s else
      if a.grantOk s.cfg k then .answered a s else .raised (s.raise .grantMalformed)

/-- One device handler run for a slot: the Call record first (R43, log 13), then the handler, then R111's treatment of
its answer. -/
def runHandler (k : DeviceKind) (slot : Slot) (ph : Phase) (h : Count → State → Answer × State) (n : Count)
    (s : State) : CallResult :=
  settleAnswer k ph (h n (s.emit (.call slot ph n))).1 (h n (s.emit (.call slot ph n))).2

/-- `reg[slot]` (R31). -/
def State.deviceAt (s : State) (slot : Slot) : Option DeviceKind := s.reg[slot.toNat]

/-- `Call(slot, ph, n)` (R111). An Empty slot is the null device: `(None, 0, Nack)`, nothing changes and nothing is
logged (R125, R284, log 14). -/
def call (slot : Slot) (ph : Phase) (n : Count) (s : State) : CallResult :=
  match s.deviceAt slot with
  | none => .answered (.refuse .nack) s
  | some k => runHandler k slot ph (handler k ph) n s

end Sys2Proof.Machine
end

