-- ==== Sys2Proof/Machine/Engine.lean ====
section
/-! DEFINITION. The Transaction Engine (spec/41_transaction_engine.md): one handler per peripheral event, each run to
completion. -/

namespace Sys2Proof.Machine

/-- The Stop a restart delivers to the open transaction's device, when one is open with bytes counted (R131). -/
def restartStop (s : State) : State :=
  if s.eng.stopPending then (call s.eng.slot ⟨s.eng.dir, .stop⟩ s.eng.cnt s).state else s

/-- A new transaction opened: the registers of R131 up to the call of Start, the watchdog armed (R139). -/
def openTransaction (slot : Slot) (dir : Dir) (s : State) : State :=
  (s.setEng { phase := .addressed, slot := slot, dir := dir, cnt := 0, rem := 0, grant := none }).rearm

/-- `EvAddr(a7, rw)` in the window: address match, start or restart (R131). -/
def addressMatch (slot : Slot) (dir : Dir) (s : State) : State :=
  match call slot ⟨dir, .start⟩ 0 (openTransaction slot dir (restartStop s)) with
  | .raised t => t
  | .answered a t => (t.install a).emit (.ack a.ack)

/-- `EvAddr` of an F-ADDR byte: an address the block does not answer is no event (spec/30_encoding.md R82, R96). -/
def addressEvent (b : BitVec 5) (slot : Slot) (dir : Dir) (s : State) : State :=
  if s.cfg.selects b slot then addressMatch slot dir s else s

/-- A data event of an open transaction: the watchdog armed, `eng.phase` Exchanging (R133, R134). -/
def openExchange (s : State) : State :=
  s.rearm.setEng { s.eng with phase := .exchanging }

/-- The granted byte sent, or FILL where no capacity is left (R133) or no live grant holds the byte (R96, log 7). -/
def shiftOut (s : State) : State :=
  if s.eng.rem = 0 then s.emit (.tx Config.fill)
  else
    match s.grantedByte with
    | none => s.emit (.tx Config.fill)
    | some b => s.countByte.emit (.tx b)

/-- ReadBufferEmpty, then the byte (R133). -/
def refill (s : State) : State :=
  match call s.eng.slot ⟨.read, .boundary⟩ s.eng.cnt s with
  | .raised t => t
  | .answered a t => shiftOut (t.install a)

/-- `EvData` with a transaction open and `eng.dir = Read`: send one byte (R133). -/
def sendByte (mNack : Bool) (s : State) : State :=
  if mNack && s.eng.cnt != 0 then (openExchange s).emit (.tx Config.fill)
  else if s.eng.rem = 0 then refill (openExchange s)
  else shiftOut (openExchange s)

/-- WriteBufferFull after the byte that filled the grant (R134). -/
def deliverFull (s : State) : State :=
  match call s.eng.slot ⟨.write, .boundary⟩ s.eng.cnt s with
  | .raised t => t
  | .answered a t => (t.install a).emit (.ack a.ack)

/-- `EvData` with a transaction open and `eng.dir = Write`: receive one byte (R134). A byte that no capacity is left for,
or that no live grant holds (log 7), is beyond the grant: Nack, neither stored nor counted (R96). -/
def receiveByte (rx : Byte) (s : State) : State :=
  if s.eng.rem = 0 then (openExchange s).emit (.ack .nack)
  else
    match (openExchange s).dueByte with
    | none => (openExchange s).emit (.ack .nack)
    | some (sp, i) =>
      if s.eng.rem = 1 then deliverFull ((openExchange s).storeByte sp i rx).countByte
      else ((openExchange s).storeByte sp i rx).countByte.emit (.ack .ack)

/-- `EvData(rx, mNack)`: by the phase and the direction of the transaction, not by the event (R133 to R135, R95). -/
def dataEvent (rx : Byte) (mNack : Bool) (s : State) : State :=
  match s.eng.phase, s.eng.dir with
  | .idle, _ => (s.emit (.ack .nack)).emit (.tx Config.fill)
  | _, .read => sendByte mNack s
  | _, .write => receiveByte rx s

/-- A transaction ended by a Stop or an Error (R136, R137); nothing happens while Idle. -/
def endTransaction (kind : PhaseKind) (s : State) : State :=
  match s.eng.phase with
  | .idle => s
  | _ => (call s.eng.slot ⟨s.eng.dir, kind⟩ s.eng.cnt s).state.clear

/-- One peripheral event (R130, spec/60_exceptions.md R293). -/
def busEvent (e : BusEvent) (s : State) : State :=
  match e with
  | .addr a => addressEvent (windowOf a) (slotOf a) (dirOf a) s
  | .data rx mNack => dataEvent rx mNack s
  | .stop => endTransaction .stop s
  | .error => endTransaction .error s

/-- Peripheral events in the order the bus produces them (R287); a raised fault ends the run (R285). -/
def busEvents : List BusEvent → State → State
  | [], s => s
  | e :: es, s =>
    match s.fault with
    | some _ => s
    | none => busEvents es (busEvent e s)

/-- The bus-level error an event surfaces (spec/60_exceptions.md R280 to R284); the machine goes on. -/
def eventError (e : BusEvent) (s : State) : Option ErrorCause :=
  match e with
  | .addr a => if s.cfg.selects (windowOf a) (slotOf a) ∧ s.deviceAt (slotOf a) = none then some .unregistered else none
  | .data rx _ =>
    if s.eng.phase ≠ .idle ∧ s.eng.dir = .write ∧ s.eng.rem = 1 ∧ s.deviceAt s.eng.slot = some .eeprom ∧
        s.cfg.isSpecial s.ee.stagedAddr = false ∧ eeAccepts s.ee.stagedAddr rx s = false then some .policy else none
  | .stop => none
  | .error => if s.eng.phase = .idle then none else some .protocol

end Sys2Proof.Machine
end

