-- ==== Sys2Proof/Machine/Tick.lean ====
section
/-! DEFINITION. The Bus Watchdog and the periodic tick (spec/42_bus_watchdog.md). -/

namespace Sys2Proof.Machine

/-- `Expire()` (R162): the peripheral restarted, the transaction state Idle, no device callback. -/
def expire (s : State) : State :=
  (s.emit .periphRestart).clear

/-- The watchdog step of a tick (R161). -/
def watchdogStep (s : State) : State :=
  if s.wd.enabled then
    if s.wd.count - 1 = 0 then expire (s.setWd { s.wd with count := s.wd.count - 1 })
    else s.setWd { s.wd with count := s.wd.count - 1 }
  else s

/-- The GPI periodic step (spec/45_gpi.md R250): only where `reg` holds a GPI device (R163). -/
def gpiPeriodic (s : State) : State :=
  if s.holds .gpi then gpiSample s else s

/-- The pacing of the GPI samples and, when due, the sample (R163). -/
def gpiTick (s : State) : State :=
  if s.gpiCount + 1 = s.cfg.gpiPeriod then gpiPeriodic (s.setGpiCount 0) else s.setGpiCount (s.gpiCount + 1)

/-- `EvTick` (R163): the watchdog step, the engine events taken between the two critical sections (spec/60_exceptions.md
R292, log 9), the GPI step. -/
def tickEvent (between : List BusEvent) (s : State) : State :=
  match (busEvents between (watchdogStep s)).fault with
  | some _ => busEvents between (watchdogStep s)
  | none => gpiTick (busEvents between (watchdogStep s))

/-- The bus-level error a tick surfaces: the timeout (spec/60_exceptions.md R282). -/
def tickError (s : State) : Option ErrorCause :=
  if s.wd.enabled = true ∧ s.wd.count - 1 = 0 then some .timeout else none

end Sys2Proof.Machine
end

