-- ==== Sys2Proof/Machine/Events.lean ====
section
/-! DEFINITION. The meanings of the 7 event rows (spec/30_encoding.md R95, R100). -/

namespace Sys2Proof.Machine

/-- EV_ADDR_W: an address byte with R/W 0 (spec/41_transaction_engine.md R131). -/
def execEvAddrW (b : BitVec 5) (slot : Slot) (s : State) : Host.Outcome State Fault Refusal :=
  .next (addressEvent b slot .write s)

/-- EV_ADDR_R: an address byte with R/W 1 (R131). -/
def execEvAddrR (b : BitVec 5) (slot : Slot) (s : State) : Host.Outcome State Fault Refusal :=
  .next (addressEvent b slot .read s)

/-- EV_DATA_RX: a data slot of a write transaction (R134); the direction is `eng.dir` (R95, log 15). -/
def execEvDataRx (rx : Byte) (mNack : Bool) (s : State) : Host.Outcome State Fault Refusal :=
  .next (dataEvent rx mNack s)

/-- EV_DATA_TX: a data slot of a read transaction (R133); the direction is `eng.dir` (R95, log 15). -/
def execEvDataTx (rx : Byte) (mNack : Bool) (s : State) : Host.Outcome State Fault Refusal :=
  .next (dataEvent rx mNack s)

/-- EV_STOP: a stop condition (R136). -/
def execEvStop (s : State) : Host.Outcome State Fault Refusal :=
  .next (endTransaction .stop s)

/-- EV_ERROR: a bus error, collision or arbitration loss (R137). -/
def execEvError (s : State) : Host.Outcome State Fault Refusal :=
  .next (endTransaction .error s)

/-- EV_TICK: one tick interval elapsed (spec/42_bus_watchdog.md R163). -/
def execEvTick (between : List BusEvent) (s : State) : Host.Outcome State Fault Refusal :=
  .next (tickEvent between s)

end Sys2Proof.Machine
end

