-- ==== Sys2Proof/Machine/Phases.lean ====
section
/-! DEFINITION. The meanings of the 32 phase handler rows (spec/30_encoding.md R100): the handler run alone, as `Call`
runs it for the slot of `eng.slot`, its answer kept in `ans` (log 10). -/

namespace Sys2Proof.Machine

/-- The answer of a call kept for whoever ran the handler alone. -/
def keepAnswer : CallResult → State
  | .answered a s => s.setAns a
  | .raised s => s

/-- One phase handler run alone, as spec/40_device_contract.md R111 runs it for `eng.slot`. -/
def runPhase (k : DeviceKind) (ph : Phase) (h : Count → State → Answer × State) (n : Count) (s : State) : State :=
  keepAnswer (runHandler k s.eng.slot ph h n s)

/-- `EE.WriteStart(n)` (R186). -/
def execEeWriteStart (n : Count) (s : State) : Host.Outcome State Fault Refusal :=
  .next (runPhase .eeprom ⟨.write, .start⟩ eeWriteStart n s)

/-- `EE.WriteBufferFull(n)` (R187). -/
def execEeWriteBufferFull (n : Count) (s : State) : Host.Outcome State Fault Refusal :=
  .next (runPhase .eeprom ⟨.write, .boundary⟩ eeWriteBufferFull n s)

/-- `EE.WriteStop(n)` (R188). -/
def execEeWriteStop (n : Count) (s : State) : Host.Outcome State Fault Refusal :=
  .next (runPhase .eeprom ⟨.write, .stop⟩ eeWriteStop n s)

/-- `EE.WriteError(n)` (R189). -/
def execEeWriteError (n : Count) (s : State) : Host.Outcome State Fault Refusal :=
  .next (runPhase .eeprom ⟨.write, .error⟩ eeWriteError n s)

/-- `EE.ReadStart(n)` (R190). -/
def execEeReadStart (n : Count) (s : State) : Host.Outcome State Fault Refusal :=
  .next (runPhase .eeprom ⟨.read, .start⟩ eeReadStart n s)

/-- `EE.ReadBufferEmpty(n)` (R191). -/
def execEeReadBufferEmpty (n : Count) (s : State) : Host.Outcome State Fault Refusal :=
  .next (runPhase .eeprom ⟨.read, .boundary⟩ eeReadBufferEmpty n s)

/-- `EE.ReadStop(n)` (R192). -/
def execEeReadStop (n : Count) (s : State) : Host.Outcome State Fault Refusal :=
  .next (runPhase .eeprom ⟨.read, .stop⟩ eeReadStop n s)

/-- `EE.ReadError(n)` (R193). -/
def execEeReadError (n : Count) (s : State) : Host.Outcome State Fault Refusal :=
  .next (runPhase .eeprom ⟨.read, .error⟩ eeReadError n s)

/-- `ADC.WriteStart(n)` (R221). -/
def execAdcWriteStart (n : Count) (s : State) : Host.Outcome State Fault Refusal :=
  .next (runPhase .adc ⟨.write, .start⟩ adcWriteStart n s)

/-- `ADC.WriteBufferFull(n)` (R222). -/
def execAdcWriteBufferFull (n : Count) (s : State) : Host.Outcome State Fault Refusal :=
  .next (runPhase .adc ⟨.write, .boundary⟩ adcWriteBufferFull n s)

/-- `ADC.WriteStop(n)` (R223). -/
def execAdcWriteStop (n : Count) (s : State) : Host.Outcome State Fault Refusal :=
  .next (runPhase .adc ⟨.write, .stop⟩ adcWriteStop n s)

/-- `ADC.WriteError(n)` (R224). -/
def execAdcWriteError (n : Count) (s : State) : Host.Outcome State Fault Refusal :=
  .next (runPhase .adc ⟨.write, .error⟩ adcWriteError n s)

/-- `ADC.ReadStart(n)` (R225). -/
def execAdcReadStart (n : Count) (s : State) : Host.Outcome State Fault Refusal :=
  .next (runPhase .adc ⟨.read, .start⟩ adcReadStart n s)

/-- `ADC.ReadBufferEmpty(n)` (R226). -/
def execAdcReadBufferEmpty (n : Count) (s : State) : Host.Outcome State Fault Refusal :=
  .next (runPhase .adc ⟨.read, .boundary⟩ adcReadBufferEmpty n s)

/-- `ADC.ReadStop(n)` (R227). -/
def execAdcReadStop (n : Count) (s : State) : Host.Outcome State Fault Refusal :=
  .next (runPhase .adc ⟨.read, .stop⟩ adcReadStop n s)

/-- `ADC.ReadError(n)` (R228). -/
def execAdcReadError (n : Count) (s : State) : Host.Outcome State Fault Refusal :=
  .next (runPhase .adc ⟨.read, .error⟩ adcReadError n s)

/-- `GPI.WriteStart(n)` (R242). -/
def execGpiWriteStart (n : Count) (s : State) : Host.Outcome State Fault Refusal :=
  .next (runPhase .gpi ⟨.write, .start⟩ gpiWriteStart n s)

/-- `GPI.WriteBufferFull(n)` (R243). -/
def execGpiWriteBufferFull (n : Count) (s : State) : Host.Outcome State Fault Refusal :=
  .next (runPhase .gpi ⟨.write, .boundary⟩ gpiWriteBufferFull n s)

/-- `GPI.WriteStop(n)` (R244). -/
def execGpiWriteStop (n : Count) (s : State) : Host.Outcome State Fault Refusal :=
  .next (runPhase .gpi ⟨.write, .stop⟩ gpiWriteStop n s)

/-- `GPI.WriteError(n)` (R245). -/
def execGpiWriteError (n : Count) (s : State) : Host.Outcome State Fault Refusal :=
  .next (runPhase .gpi ⟨.write, .error⟩ gpiWriteError n s)

/-- `GPI.ReadStart(n)` (R246). -/
def execGpiReadStart (n : Count) (s : State) : Host.Outcome State Fault Refusal :=
  .next (runPhase .gpi ⟨.read, .start⟩ gpiReadStart n s)

/-- `GPI.ReadBufferEmpty(n)` (R247). -/
def execGpiReadBufferEmpty (n : Count) (s : State) : Host.Outcome State Fault Refusal :=
  .next (runPhase .gpi ⟨.read, .boundary⟩ gpiReadBufferEmpty n s)

/-- `GPI.ReadStop(n)` (R248). -/
def execGpiReadStop (n : Count) (s : State) : Host.Outcome State Fault Refusal :=
  .next (runPhase .gpi ⟨.read, .stop⟩ gpiReadStop n s)

/-- `GPI.ReadError(n)` (R249). -/
def execGpiReadError (n : Count) (s : State) : Host.Outcome State Fault Refusal :=
  .next (runPhase .gpi ⟨.read, .error⟩ gpiReadError n s)

/-- `SRAM.WriteStart(n)` (R260). -/
def execSramWriteStart (n : Count) (s : State) : Host.Outcome State Fault Refusal :=
  .next (runPhase .sram ⟨.write, .start⟩ sramWriteStart n s)

/-- `SRAM.WriteBufferFull(n)` (R261, R262). -/
def execSramWriteBufferFull (n : Count) (s : State) : Host.Outcome State Fault Refusal :=
  .next (runPhase .sram ⟨.write, .boundary⟩ sramWriteBufferFull n s)

/-- `SRAM.WriteStop(n)` (R264). -/
def execSramWriteStop (n : Count) (s : State) : Host.Outcome State Fault Refusal :=
  .next (runPhase .sram ⟨.write, .stop⟩ sramWriteStop n s)

/-- `SRAM.WriteError(n)` (R265). -/
def execSramWriteError (n : Count) (s : State) : Host.Outcome State Fault Refusal :=
  .next (runPhase .sram ⟨.write, .error⟩ sramWriteError n s)

/-- `SRAM.ReadStart(n)` (R266). -/
def execSramReadStart (n : Count) (s : State) : Host.Outcome State Fault Refusal :=
  .next (runPhase .sram ⟨.read, .start⟩ sramReadStart n s)

/-- `SRAM.ReadBufferEmpty(n)` (R267). -/
def execSramReadBufferEmpty (n : Count) (s : State) : Host.Outcome State Fault Refusal :=
  .next (runPhase .sram ⟨.read, .boundary⟩ sramReadBufferEmpty n s)

/-- `SRAM.ReadStop(n)` (R268). -/
def execSramReadStop (n : Count) (s : State) : Host.Outcome State Fault Refusal :=
  .next (runPhase .sram ⟨.read, .stop⟩ sramReadStop n s)

/-- `SRAM.ReadError(n)` (R269). -/
def execSramReadError (n : Count) (s : State) : Host.Outcome State Fault Refusal :=
  .next (runPhase .sram ⟨.read, .error⟩ sramReadError n s)
end Sys2Proof.Machine
end

