-- ==== Sys2Proof/Machine/Frames.lean ====
section
/-! DEFINITION. Bus traces as the engine events their tokens produce (spec/00_scope.md R11, spec/30_encoding.md R97,
log 11), the effect of any item of the pending input, the meanings of the 14 frame rows (R85 to R93), and the composite
transactions of R99. -/

namespace Sys2Proof.Machine

/-! ## The events of a bus trace (R11) -/

/-- What the next byte of the bus is to the block: an address byte, due after `S` or `Sr` alone; a data slot, of a
transaction of the block or with no start condition since the last stop or error (R95, R135; vector V01); or a byte of
a transaction the block ignores (R82, R96). -/
inductive Heard where
  | address
  | data
  | ignored
  deriving DecidableEq, Repr

/-- The event a token produces (R11, R95). An address byte the block does not answer is none, nor is anything of the
transaction it begins, its stop included (log 16). A read request where the address byte is due, an order no rule gives
a meaning, is a data event as everywhere: each token is one event (R11; the model's choice, log 15). -/
def Heard.event (p : Params) : Heard → Token → Option BusEvent
  | .address, .byte a => if p.selects (windowOf a) (slotOf a) then some (.addr a) else none
  | .address, t => t.event
  | .data, t => t.event
  | .ignored, _ => none

/-- What comes after a token: an address byte is due after `S` and `Sr` (R80, R95), a frame ends at `P` and `E` (R97). -/
def Heard.after (p : Params) : Heard → Token → Heard
  | _, .restart => .address
  | _, .start => .address
  | _, .stop => .data
  | _, .error => .data
  | .address, .byte a => if p.selects (windowOf a) (slotOf a) then .data else .ignored
  | .data, .byte _ => .data
  | .ignored, .byte _ => .ignored
  | h, .req => h
  | h, .reqNack => h

/-- The engine events of a bus trace, in order (R11). -/
def tokenEvents (p : Params) (h : Heard) : List Token → List BusEvent
  | [] => []
  | t :: ts => (h.event p t).toList ++ tokenEvents p (h.after p t) ts

/-- The tokens of a frame, which stand after a start condition, run as the events they produce. -/
def runTokens (ts : List Token) (s : State) : State := busEvents (tokenEvents s.cfg .address ts) s

/-- One item of the pending input run without the rows of the table (log 25). An F-PHASE word calls `reg[eng.slot]`, the
null device where that slot is Empty (R111, R125). -/
def runItem (it : PortItem) (s : State) : State :=
  match it with
  | .event e => busEvent e s
  | .tick between => tickEvent between s
  | .phase code => keepAnswer (call s.eng.slot (phaseOf code) s.eng.cnt s)
  | .frame ts => runTokens ts s

/-! ## The frame rows -/

/-- A frame to a slot: its address byte in the block's window, then its other tokens. -/
def runFrame (slot : Slot) (dir : Dir) (ts : List Token) (s : State) : State :=
  runTokens (.byte (addrByte s.cfg.base slot dir) :: ts) s

/-- An F-EE-W frame to an address (R85). -/
def eeWriteTokens (a : U16) (d : Byte) : List Token := [.byte (hi8 a), .byte (lo8 a), .byte d]

/-- EE_WRITE_BYTE: F-EE-W (R85; spec/43_eeprom.md R187, R184). -/
def execEeWriteByte (slot : Slot) (hi lo d : Byte) (s : State) : Host.Outcome State Fault Refusal :=
  .next (runFrame slot .write [.byte hi, .byte lo, .byte d] s)

/-- EE_ARM_HI: F-EE-W to `P_WE_HI` (R87). -/
def execEeArmHi (slot : Slot) (d : Byte) (s : State) : Host.Outcome State Fault Refusal :=
  .next (runFrame slot .write (eeWriteTokens s.cfg.weHi d) s)

/-- EE_ARM_LO: F-EE-W to `P_WE_LO` (R87). -/
def execEeArmLo (slot : Slot) (d : Byte) (s : State) : Host.Outcome State Fault Refusal :=
  .next (runFrame slot .write (eeWriteTokens s.cfg.weLo d) s)

/-- EE_ARM_DATA: F-EE-W to `P_WE_DATA` (R87). -/
def execEeArmData (slot : Slot) (d : Byte) (s : State) : Host.Outcome State Fault Refusal :=
  .next (runFrame slot .write (eeWriteTokens s.cfg.weData d) s)

/-- EE_CTRL: F-EE-W to `P_EE_CTRL` (R87). -/
def execEeCtrl (slot : Slot) (d : Byte) (s : State) : Host.Outcome State Fault Refusal :=
  .next (runFrame slot .write (eeWriteTokens s.cfg.eeCtrl d) s)

/-- EE_SET_CURSOR: F-EE-A (R86; spec/43_eeprom.md R188). -/
def execEeSetCursor (slot : Slot) (hi lo : Byte) (fin : FrameEnd) (s : State) : Host.Outcome State Fault Refusal :=
  .next (runFrame slot .write [.byte hi, .byte lo, endToken fin] s)

/-- EE_READ: F-EE-R (R86). -/
def execEeRead (slot : Slot) (reqs : List Bool) (s : State) : Host.Outcome State Fault Refusal :=
  .next (runFrame slot .read (reqs.map reqToken) s)

/-- ADC_CMD: F-ADC-CMD (R88). -/
def execAdcCmd (slot : Slot) (cmd : Byte) (s : State) : Host.Outcome State Fault Refusal :=
  .next (runFrame slot .write [.byte cmd] s)

/-- ADC_READ: F-ADC-R (R89). -/
def execAdcRead (slot : Slot) (reqs : List Bool) (s : State) : Host.Outcome State Fault Refusal :=
  .next (runFrame slot .read (reqs.map reqToken) s)

/-- GPI_SET_MASK: F-GPI-W (R90). -/
def execGpiSetMask (slot : Slot) (m : Byte) (s : State) : Host.Outcome State Fault Refusal :=
  .next (runFrame slot .write [.byte m] s)

/-- GPI_READ: F-GPI-R (R91). -/
def execGpiRead (slot : Slot) (reqs : List Bool) (s : State) : Host.Outcome State Fault Refusal :=
  .next (runFrame slot .read (reqs.map reqToken) s)

/-- SRAM_WRITE: F-SRAM-W (R92). -/
def execSramWrite (slot : Slot) (hi lo : Byte) (ds : List Byte) (s : State) : Host.Outcome State Fault Refusal :=
  .next (runFrame slot .write (.byte hi :: .byte lo :: ds.map .byte) s)

/-- SRAM_SET_CURSOR: F-SRAM-A (R92). -/
def execSramSetCursor (slot : Slot) (hi lo : Byte) (fin : FrameEnd) (s : State) : Host.Outcome State Fault Refusal :=
  .next (runFrame slot .write [.byte hi, .byte lo, endToken fin] s)

/-- SRAM_READ: F-SRAM-R (R93). -/
def execSramRead (slot : Slot) (reqs : List Bool) (s : State) : Host.Outcome State Fault Refusal :=
  .next (runFrame slot .read (reqs.map reqToken) s)

/-! ## Composite transactions (R99)

Each is a list of pending items of the block, for a context that fixes the addresses. -/

/-- One frame and a stop. -/
def stopped (c : Ctx) (i : Instr) : List PortItem := [encode c i, .event .stop]

/-- `EE_ARM(A, D)`. -/
def eeArm (c : Ctx) (slot : Slot) (a : U16) (d : Byte) : List PortItem :=
  stopped c (.eeArmHi slot (hi8 a)) ++ stopped c (.eeArmLo slot (lo8 a)) ++ stopped c (.eeArmData slot d)

/-- `EE_PROTECTED_WRITE(A, D)`. -/
def eeProtectedWrite (c : Ctx) (slot : Slot) (a : U16) (d : Byte) : List PortItem :=
  eeArm c slot a d ++ stopped c (.eeWriteByte slot (hi8 a) (lo8 a) d)

/-- `n` requests `R`, then `RN`. -/
def reads (n : Nat) : List Bool := List.replicate n false ++ [true]

/-- `EE_RANDOM_READ(A, n)`. -/
def eeRandomRead (c : Ctx) (slot : Slot) (a : U16) (n : Nat) : List PortItem :=
  encode c (.eeSetCursor slot (hi8 a) (lo8 a) .restart) :: stopped c (.eeRead slot (reads n))

/-- `ADC_CONVERT(cmd)`. -/
def adcConvertSeq (c : Ctx) (slot : Slot) (cmd : Byte) : List PortItem :=
  stopped c (.adcCmd slot cmd) ++ stopped c (.adcRead slot (reads 1))

/-- `GPI_SET_MASK(m)`. -/
def gpiSetMaskSeq (c : Ctx) (slot : Slot) (m : Byte) : List PortItem := stopped c (.gpiSetMask slot m)

/-- `GPI_POLL`. -/
def gpiPoll (c : Ctx) (slot : Slot) : List PortItem := stopped c (.gpiRead slot (reads 2))

/-- `SRAM_WRITE(a, bytes)`. -/
def sramWriteSeq (c : Ctx) (slot : Slot) (a : U16) (bs : List Byte) : List PortItem :=
  stopped c (.sramWrite slot (hi8 a) (lo8 a) bs)

/-- `SRAM_READ(a, n)`. -/
def sramReadSeq (c : Ctx) (slot : Slot) (a : U16) (n : Nat) : List PortItem :=
  encode c (.sramSetCursor slot (hi8 a) (lo8 a) .restart) :: stopped c (.sramRead slot (reads n))

end Sys2Proof.Machine
end

