-- ==== Sys2Proof/Machine/Dispatch.lean ====
section
/-! DEFINITION. `exec`: one arm per row of spec/opcode_table.json, each one direct call of its meaning. -/

namespace Sys2Proof.Machine

def exec (i : Instr) (s : State) : Host.Outcome State Fault Refusal :=
  match i with
  | .evAddrW b slot => Sys2Proof.Machine.execEvAddrW b slot s
  | .evAddrR b slot => Sys2Proof.Machine.execEvAddrR b slot s
  | .evDataRx rx mNack => Sys2Proof.Machine.execEvDataRx rx mNack s
  | .evDataTx rx mNack => Sys2Proof.Machine.execEvDataTx rx mNack s
  | .evStop => Sys2Proof.Machine.execEvStop s
  | .evError => Sys2Proof.Machine.execEvError s
  | .evTick between => Sys2Proof.Machine.execEvTick between s
  | .eeWriteStart n => Sys2Proof.Machine.execEeWriteStart n s
  | .eeWriteBufferFull n => Sys2Proof.Machine.execEeWriteBufferFull n s
  | .eeWriteStop n => Sys2Proof.Machine.execEeWriteStop n s
  | .eeWriteError n => Sys2Proof.Machine.execEeWriteError n s
  | .eeReadStart n => Sys2Proof.Machine.execEeReadStart n s
  | .eeReadBufferEmpty n => Sys2Proof.Machine.execEeReadBufferEmpty n s
  | .eeReadStop n => Sys2Proof.Machine.execEeReadStop n s
  | .eeReadError n => Sys2Proof.Machine.execEeReadError n s
  | .adcWriteStart n => Sys2Proof.Machine.execAdcWriteStart n s
  | .adcWriteBufferFull n => Sys2Proof.Machine.execAdcWriteBufferFull n s
  | .adcWriteStop n => Sys2Proof.Machine.execAdcWriteStop n s
  | .adcWriteError n => Sys2Proof.Machine.execAdcWriteError n s
  | .adcReadStart n => Sys2Proof.Machine.execAdcReadStart n s
  | .adcReadBufferEmpty n => Sys2Proof.Machine.execAdcReadBufferEmpty n s
  | .adcReadStop n => Sys2Proof.Machine.execAdcReadStop n s
  | .adcReadError n => Sys2Proof.Machine.execAdcReadError n s
  | .gpiWriteStart n => Sys2Proof.Machine.execGpiWriteStart n s
  | .gpiWriteBufferFull n => Sys2Proof.Machine.execGpiWriteBufferFull n s
  | .gpiWriteStop n => Sys2Proof.Machine.execGpiWriteStop n s
  | .gpiWriteError n => Sys2Proof.Machine.execGpiWriteError n s
  | .gpiReadStart n => Sys2Proof.Machine.execGpiReadStart n s
  | .gpiReadBufferEmpty n => Sys2Proof.Machine.execGpiReadBufferEmpty n s
  | .gpiReadStop n => Sys2Proof.Machine.execGpiReadStop n s
  | .gpiReadError n => Sys2Proof.Machine.execGpiReadError n s
  | .sramWriteStart n => Sys2Proof.Machine.execSramWriteStart n s
  | .sramWriteBufferFull n => Sys2Proof.Machine.execSramWriteBufferFull n s
  | .sramWriteStop n => Sys2Proof.Machine.execSramWriteStop n s
  | .sramWriteError n => Sys2Proof.Machine.execSramWriteError n s
  | .sramReadStart n => Sys2Proof.Machine.execSramReadStart n s
  | .sramReadBufferEmpty n => Sys2Proof.Machine.execSramReadBufferEmpty n s
  | .sramReadStop n => Sys2Proof.Machine.execSramReadStop n s
  | .sramReadError n => Sys2Proof.Machine.execSramReadError n s
  | .eeWriteByte slot hi lo d => Sys2Proof.Machine.execEeWriteByte slot hi lo d s
  | .eeArmHi slot d => Sys2Proof.Machine.execEeArmHi slot d s
  | .eeArmLo slot d => Sys2Proof.Machine.execEeArmLo slot d s
  | .eeArmData slot d => Sys2Proof.Machine.execEeArmData slot d s
  | .eeCtrl slot d => Sys2Proof.Machine.execEeCtrl slot d s
  | .eeSetCursor slot hi lo fin => Sys2Proof.Machine.execEeSetCursor slot hi lo fin s
  | .eeRead slot reqs => Sys2Proof.Machine.execEeRead slot reqs s
  | .adcCmd slot cmd => Sys2Proof.Machine.execAdcCmd slot cmd s
  | .adcRead slot reqs => Sys2Proof.Machine.execAdcRead slot reqs s
  | .gpiSetMask slot m => Sys2Proof.Machine.execGpiSetMask slot m s
  | .gpiRead slot reqs => Sys2Proof.Machine.execGpiRead slot reqs s
  | .sramWrite slot hi lo ds => Sys2Proof.Machine.execSramWrite slot hi lo ds s
  | .sramSetCursor slot hi lo fin => Sys2Proof.Machine.execSramSetCursor slot hi lo fin s
  | .sramRead slot reqs => Sys2Proof.Machine.execSramRead slot reqs s

end Sys2Proof.Machine
end

