-- ==== Sys2Proof/Machine/Step.lean ====
section
/-! DEFINITION. One step: the oldest pending item is decoded and run to completion (spec/20_memory.md R70,
spec/60_exceptions.md R287). -/

namespace Sys2Proof.Machine

/-- One step. A faulted run ends (R285, R320). With no item pending the block waits (R310, log 1). An item that
stands for no row of the table has the effect of the events it produces (R96, R97, R125, log 25). -/
def step (s : State) : Host.Outcome State Fault Refusal :=
  match s.fault with
  | some f => .fault f
  | none =>
    match s.inbox with
    | [] => .next s
    | it :: rest =>
      match decode s.ctx it with
      | .ok i => exec i (s.setInbox rest)
      | .error _ => .next (runItem it (s.setInbox rest))

/-- The item of a table word placed before all pending input, so that the very next step takes it (log 1, log 12). -/
def State.withFetchWord (s : State) (nbits w : Nat) : State :=
  match tableItem nbits w with
  | none => s
  | some it => s.setInbox (it :: s.inbox)

end Sys2Proof.Machine
end

