-- ==== Sys2Proof/Safety.lean ====
section
/-! DEFINITION. What claims observe and assume: the launch premises of spec/70_reset_and_hazards.md R322, the invariant
of the reachable states, runs of operations, and readings of the observation log (spec/10_state.md R43). -/

namespace Sys2Proof.Machine

/-! ## Launch premises (R322) -/

/-- `ResetState`: the state of R310, for some parameters the spec admits and some contents of the 512 SRAM bytes. -/
def ResetState (s : State) : Prop :=
  ∃ p : Params, ∃ m : Memory, p.wf = true ∧ Memory.wf m = true ∧ s = State.resetWith p m

/-- `Quiescent`: Idle, the watchdog disabled, no fault recorded. -/
abbrev Quiescent (s : State) : Prop := s.eng.phase = .idle ∧ s.wd.enabled = false ∧ s.fault = none

/-- `GpiArmed`. -/
abbrev GpiArmed (s : State) : Prop := s.gpi.armed = true

/-- `ArmClear`: all three EEPROM arm registers invalid. -/
abbrev ArmClear (s : State) : Prop := s.ee.arm = ⟨none, none, none⟩

/-- The pending input holds only what the block's environment can deliver: peripheral events and ticks (R95, R320). -/
def busOnly (q : List PortItem) : Bool :=
  q.all fun it =>
    match it with
    | .event _ => true
    | .tick _ => true
    | .phase _ => false
    | .frame _ => false

/-! ## The invariant -/

/-- A live grant lies inside a space of the device in the transaction's slot, and `eng.cnt + eng.rem = g.len` (R26,
R27, R122); with no live grant nothing is counted and no capacity is left. -/
def grantInv (s : State) : Bool :=
  match s.eng.grant with
  | none => s.eng.cnt == 0 && s.eng.rem == 0
  | some w =>
    w.len != 0 && decide (w.base + w.len.toNat ≤ w.space.size s.cfg) &&
      decide (s.eng.cnt.toNat + s.eng.rem.toNat = w.len.toNat) && s.deviceAt s.eng.slot == some w.space.owner

/-- No grant exceeds 512 bytes, so `eng.cnt` never wraps (R25, D10). -/
def grantBound (s : State) : Bool :=
  match s.eng.grant with
  | none => true
  | some w => decide (w.len.toNat ≤ Config.largestGrant)

/-- Idle means no grant (R140, R141). -/
def idleInv (s : State) : Bool := s.eng.phase != .idle || s.eng.grant == none

/-- The watchdog runs exactly while a transaction is open, with 1 to `P_TIMEOUT` ticks left, and stands at 0 otherwise
(R29, R160, R161). -/
def watchdogInv (s : State) : Bool :=
  s.wd.enabled == (s.eng.phase != .idle) &&
    (if s.wd.enabled then decide (1 ≤ s.wd.count ∧ s.wd.count ≤ s.cfg.timeout) else s.wd.count == 0)

/-- The invariant of the reachable states: admissible parameters (R7), each device in at most one slot (R31), the engine
and the watchdog consistent, no grant above 512 bytes (R25), `tk.gpiCount` in its range (R30), the window of `P_EE_WINDOW` bytes (R32), the SRAM in
canonical form, and no fault (R285). -/
def inv (s : State) : Bool :=
  s.cfg.wf && registryWf s.reg && grantInv s && grantBound s && idleInv s && watchdogInv s && decide (s.gpiCount < s.cfg.gpiPeriod) &&
    s.ee.win.length == s.cfg.eeWindow.toNat && Memory.wf s.sram.mem && s.fault == none

/-! ## Runs of operations -/

/-- Operations run one after another; none where one of them does not answer a next state. -/
def execAll : List Instr → State → Option State
  | [], s => some s
  | i :: is, s =>
    match exec i s with
    | .next t => execAll is t
    | .fault _ => none
    | .refused _ => none

/-! ## Readings of the log -/

/-- The records a run from `s` to `t` appended. -/
def newRecords (s t : State) : List Record := t.log.drop s.log.length

/-- The bytes sent, in order. -/
def txBytes (rs : List Record) : List Byte :=
  rs.filterMap fun r =>
    match r with
    | .tx b => some b
    | _ => none

/-- The acknowledges driven, in order. -/
def acksOf (rs : List Record) : List Ack :=
  rs.filterMap fun r =>
    match r with
    | .ack a => some a
    | _ => none

/-- The calls of devices, in order. -/
def callsOf (rs : List Record) : List (Slot × Phase × Count) :=
  rs.filterMap fun r =>
    match r with
    | .call slot ph n => some (slot, ph, n)
    | _ => none

/-- The call is EE.WriteBufferFull's (R187): WriteBufferFull of a slot that holds the EEPROM. -/
def isEeWriteFull (s : State) (c : Slot × Phase × Count) : Bool :=
  s.deviceAt c.1 == some .eeprom && c.2.1 == ⟨.write, .boundary⟩

/-- The writes to the persistent store, in order. -/
def persistWrites (rs : List Record) : List (U16 × Byte) :=
  rs.filterMap fun r =>
    match r with
    | .persistWrite a v => some (a, v)
    | _ => none

/-- How often the peripheral was restarted. -/
def restarts (rs : List Record) : Nat := rs.count .periphRestart

/-- The level of the GPI line after the records, from the level before them; none where a record repeats the level the
line already has (R43: every CHANGE of the level is recorded). -/
def irqTrace (level : Bool) : List Record → Option Bool
  | [] => some level
  | .irq v :: rs => if v = level then none else irqTrace v rs
  | .call _ _ _ :: rs => irqTrace level rs
  | .ack _ :: rs => irqTrace level rs
  | .tx _ :: rs => irqTrace level rs
  | .persistWrite _ _ :: rs => irqTrace level rs
  | .superviseCtrl _ :: rs => irqTrace level rs
  | .periphRestart :: rs => irqTrace level rs

/-- The bytes a read transaction sends from a grant of the bytes `ws` that is never renewed, for the requests `reqs`: a
request after a NACK gets FILL once a byte of the grant was sent (`fresh` false), any other request the next byte, and
FILL when none is left (R133). -/
def streamed (ws : List Byte) (fresh : Bool) : List Bool → List Byte
  | [] => []
  | nacked :: reqs =>
    if nacked && !fresh then Config.fill :: streamed ws fresh reqs
    else
      match ws with
      | [] => Config.fill :: streamed [] true reqs
      | b :: rest => b :: streamed rest false reqs

/-- The same from a byte source that never ends, byte `i` of it `f i`: the SRAM's (R266, R267). -/
def streamedFrom (f : Nat → Byte) (i : Nat) (fresh : Bool) : List Bool → List Byte
  | [] => []
  | nacked :: reqs =>
    if nacked && !fresh then Config.fill :: streamedFrom f i fresh reqs
    else f i :: streamedFrom f (i + 1) false reqs

/-- How many bytes of the source a read transaction consumes. -/
def consumed (fresh : Bool) : List Bool → Nat
  | [] => 0
  | nacked :: reqs => if nacked && !fresh then consumed fresh reqs else consumed false reqs + 1

/-- The event is a data slot (R95). -/
def dataSlot : BusEvent → Bool
  | .addr _ => false
  | .data _ _ => true
  | .stop => false
  | .error => false

/-- A data event now fills no grant of an EEPROM write transaction: it ends no F-EE-W (R85, R134). -/
def endsNoEeWrite (s : State) : Bool :=
  s.eng.phase == .idle || s.eng.dir == .read || s.deviceAt s.eng.slot != some .eeprom || s.eng.rem != 1

/-- How many windows of `size` bytes a read of `n` bytes takes: one at the Start, one more each time a window is used up
and another byte is asked for (R190, R191). -/
def windowsUsed (size n : Nat) : Nat := (n - 1) / size + 1

/-- An operation that never writes the EEPROM's arm (spec/43_eeprom.md R196): no F-EE-W ends in it but a control
write. -/
def keepsArm (s : State) : Instr → Bool
  | .evDataRx _ _ => endsNoEeWrite s
  | .evDataTx _ _ => endsNoEeWrite s
  | .evTick between => between.all fun e => !dataSlot e
  | .eeWriteBufferFull _ => false
  | .eeWriteByte _ _ _ _ => false
  | .eeArmHi _ _ => false
  | .eeArmLo _ _ => false
  | .eeArmData _ _ => false
  | _ => true

/-! ## The registers after an event -/

/-- The engine registers of a transaction with no capacity left (R131, R133, R134). -/
def drained (phase : EnginePhase) (slot : Slot) (dir : Dir) : Engine :=
  { phase := phase, slot := slot, dir := dir, cnt := 0, rem := 0, grant := none }

/-- The watchdog as `Rearm` leaves it (R139). -/
def armedWatchdog (p : Params) : Watchdog := { enabled := true, count := p.timeout }

/-- The watchdog as `Clear` leaves it (R140). -/
def offWatchdog : Watchdog := { enabled := false, count := 0 }

end Sys2Proof.Machine
end

