-- ==== Sys2Proof/Certificates/Slice0/Obligations.lean ====
section
/-! DEFINITION. The statements for the provers. Each formalises rules of spec/ that its docstring names; nothing is
proved here. `restartStop s` is the state after the Stop that a restart owes the open transaction (R131); it is `s`
where none is owed, so a statement over it covers a frame sent from Idle and a frame sent after `Sr`. -/

open Sys2Proof Sys2Proof.Machine

/-! ## Encodings (spec/30_encoding.md) -/

/-- Words written out from the encodings decode to what they stand for: F-ADDR (R81), F-PHASE (R94), F-EE-W to a special
and to an ordinary address (R85, R87), F-EE-A (R86), F-ADC-CMD (R88), F-GPI-R (R91), F-SRAM-W (R92). -/
def Obligations.WrittenOutWordsDecode : Prop :=
  ∀ c : Ctx, c.cfg.base = 0b10100 → c.reg = #v[some .eeprom, some .adc, some .gpi, some .sram] →
    c.cfg.weHi = 0x0080 → c.cfg.weLo = 0x0081 → c.cfg.weData = 0x0082 → c.cfg.eeCtrl = 0x0083 →
      decode c (.event (.addr 0b10100110)) = .ok (.evAddrW 0b10100 0b11) ∧
      decode c (.event (.addr 0b10100001)) = .ok (.evAddrR 0b10100 0b00) ∧
      (c.slot = 2 → decode c (.phase 0b110) = .ok (.gpiReadStop c.cnt)) ∧
      (c.slot = 0 → decode c (.phase 0b001) = .ok (.eeWriteBufferFull c.cnt)) ∧
      decode c (.frame [.byte 0xA0, .byte 0x00, .byte 0x81, .byte 0x38]) = .ok (.eeArmLo 0 0x38) ∧
      decode c (.frame [.byte 0xA0, .byte 0x00, .byte 0x38, .byte 0x12]) = .ok (.eeWriteByte 0 0x00 0x38 0x12) ∧
      decode c (.frame [.byte 0xA0, .byte 0x01, .byte 0x05, .restart]) = .ok (.eeSetCursor 0 0x01 0x05 .restart) ∧
      decode c (.frame [.byte 0xA2, .byte 0xA8]) = .ok (.adcCmd 1 0xA8) ∧
      decode c (.frame [.byte 0xA5, .req, .req, .reqNack]) = .ok (.gpiRead 2 [false, false, true]) ∧
      decode c (.frame [.byte 0xA6, .byte 0x01, .byte 0xFE, .byte 0x11, .byte 0x22]) =
        .ok (.sramWrite 3 0x01 0xFE [0x11, 0x22])

/-- F-PHASE (R94): bit 2 is the direction, bits 1:0 the kind, and each of the 8 codes stands for one phase. -/
def Obligations.PhaseCodeIsDirectionAndKind : Prop :=
  (∀ ph : Phase,
    (phaseCode ph).getLsbD 2 = (ph.dir == .read) ∧
    (phaseCode ph).extractLsb' 0 2 =
      (match ph.kind with
        | .start => 0b00#2
        | .boundary => 0b01#2
        | .stop => 0b10#2
        | .error => 0b11#2) ∧
    phaseOf (phaseCode ph) = ph) ∧
  ∀ code : BitVec 3, phaseCode (phaseOf code) = code

/-- Decoding the encoding of a well-formed operation gives it back, for every row of the table and every operand. -/
def Obligations.DecodeOfEncodeIsTheOperation : Prop :=
  ∀ (c : Ctx) (i : Instr), c.cfg.specialsApart = true → i.wf c = true → decode c (encode c i) = .ok i

/-- An item that decodes is the encoding of what it decodes to: no item has two readings and none is read loosely. -/
def Obligations.EncodeOfDecodeIsTheItem : Prop :=
  ∀ (c : Ctx) (it : PortItem) (i : Instr), decode c it = .ok i → encode c i = it

/-! ## The step and the reset state -/

/-- A step of an unfaulted machine decodes the oldest pending item and runs its operation on the state with the item
taken out. That the pending input is the list `inbox` and that one step takes its oldest item is the model's choice (log
1), and so is that an item may be a phase word or a whole frame (log 10, log 11). -/
def Obligations.StepRunsTheDecodedOperation : Prop :=
  ∀ (s : State) (it : PortItem) (rest : List PortItem) (i : Instr),
    s.fault = none → s.inbox = it :: rest → decode s.ctx it = .ok i → step s = exec i (s.setInbox rest)

/-- The other steps: a recorded fault ends the run; with nothing pending the block waits (the model's choice, log 1). An
item that stands for no row has the effect of the events it produces (the model's choice, log 25): a frame those of its
tokens; a phase word for an Empty slot that of the null device, which answers no window, capacity 0 and Nack and changes
nothing else (R125; kept in `ans`, log 10). A frame to an address the block does not answer produces no event, its stop
included (R82, R96, log 16). -/
def Obligations.StepWithoutAnOperation : Prop :=
  (∀ (s : State) (f : Fault), s.fault = some f → step s = .fault f) ∧
  (∀ s : State, s.fault = none → s.inbox = [] → step s = .next s) ∧
  (∀ (s : State) (it : PortItem) (rest : List PortItem) (why : Reject), s.fault = none → s.inbox = it :: rest →
    decode s.ctx it = .error why → step s = .next (runItem it (s.setInbox rest))) ∧
  (∀ (s : State) (ts : List Token), runItem (.frame ts) s = busEvents (tokenEvents s.cfg .address ts) s) ∧
  (∀ (s : State) (code : BitVec 3), s.deviceAt s.eng.slot = none →
    runItem (.phase code) s = { s with ans := { grant := none, cap := 0, ack := .nack } }) ∧
  ∀ (s : State) (a : Byte) (ts : List Token), s.cfg.selects (windowOf a) (slotOf a) = false →
    (∀ t ∈ ts, t ≠ .stop ∧ t ≠ .restart ∧ t ≠ .start ∧ t ≠ .error) →
    runItem (.frame (.byte a :: ts)) s = s ∧ runItem (.frame (.byte a :: ts ++ [.stop])) s = s

/-- The values R310 gives, for all parameters and SRAM contents; the reset state is one of these states, each of its
SRAM bytes a draw. -/
def Obligations.ResetLeavesTheStatedValues : Prop :=
  (∀ (p : Params) (m : Memory),
    let r := State.resetWith p m
    r.eng = drained .idle 0 .write ∧ r.wd = offWatchdog ∧ r.gpiCount = 0 ∧
    (∀ slot : Slot, r.deviceAt slot = if p.registered[slot.toNat] then some p.slotDevice[slot.toNat] else none) ∧
    r.ee.cursor = 0x0000 ∧ r.ee.arm = ⟨none, none, none⟩ ∧
    r.adc.se = (p.adcResetCmd.getLsbD 7 == p.adcSeValue) ∧ r.adc.chan = p.adcResetCmd.extractLsb' 4 3 ∧
    r.adc.ref = p.adcResetCmd.extractLsb' 3 1 ∧
    r.gpi.cur = 0x00 ∧ r.gpi.prev = 0x00 ∧ r.gpi.trans = 0x00 ∧ r.gpi.mask = 0x00 ∧ r.gpi.armed = false ∧
    r.gpi.irq = false ∧ r.sram.mem = m ∧ r.sram.cursor = 0 ∧ r.sram.wphase = .addrPhase ∧ r.log = [] ∧
    r.fault = none) ∧
  State.reset = State.resetWith Config.params Config.sramPowerUp ∧
  Config.params.adcResetCmd = 0x00 ∧ Config.params.registry = #v[some .eeprom, some .adc, some .gpi, some .sram] ∧
  ∀ a : Nat, a < 512 → Memory.read a State.reset.sram.mem = Config.sramDraw a

/-- The invariant holds at reset. It rests on the model's reset values of log 2, 4 and 5. -/
def Obligations.ResetMeetsTheInvariant : Prop :=
  inv State.reset = true

/-- A state of the launch premise `ResetState`, the state of R310 for any admissible parameters and contents of the
SRAM, meets the invariant and the premises `Quiescent` and `ArmClear`, and not `GpiArmed` (R322). -/
def Obligations.EveryResetStateMeetsTheInvariant : Prop :=
  ∀ s : State, ResetState s → inv s = true ∧ Quiescent s ∧ ArmClear s ∧ ¬GpiArmed s

/-- Every step keeps the invariant, from every state that has it: live grants stay well formed and `eng.cnt + eng.rem`
is their length (R26, R122), the watchdog runs exactly while a transaction is open with 1 to `P_TIMEOUT` ticks left
(R29, R161), no grant exceeds 512 bytes (R25), `tk.gpiCount` stays in range (R30), the SRAM stays canonical, and no
fault is ever raised (R285). -/
def Obligations.EveryStepKeepsTheInvariant : Prop :=
  ∀ s t : State, inv s = true → step s = .next t → inv t = true

/-- No step writes the registry or a parameter (R31, R39), and the log is only appended to (R43). No operation raises the
fault, from any state: the four devices never return a malformed grant, and nothing else raises it (R285). -/
def Obligations.StepsAppendToTheLogAndKeepTheRegistry : Prop :=
  (∀ s t : State, step s = .next t → t.reg = s.reg ∧ t.cfg = s.cfg ∧ ∃ rs, t.log = s.log ++ rs) ∧
  ∀ (s : State) (i : Instr), ∃ t, exec i s = .next t ∧ t.fault = s.fault

/-! ## The engine: address, stop, error (spec/41_transaction_engine.md) -/

/-- EV_ADDR_W and EV_ADDR_R in the window, to a registered slot (R131): after the Stop a restart owes, the device's
Start handler runs with count 0 on the opened transaction; its grant and capacity are installed and the address is
acknowledged. Nothing else changes. -/
def Obligations.AddressMatchOpensTheTransaction : Prop :=
  ∀ (s : State) (slot : Slot) (dir : Dir) (k : DeviceKind), s.deviceAt slot = some k → s.cfg.answers slot = true →
    ∃ t, exec (match dir with | .write => .evAddrW s.cfg.base slot | .read => .evAddrR s.cfg.base slot) s = .next t ∧
      let r := restartStop s
      let o := { r with eng := drained .addressed slot dir, wd := armedWatchdog s.cfg }
      let h := handler k ⟨dir, .start⟩ 0 { o with log := o.log ++ [.call slot ⟨dir, .start⟩ 0] }
      t =
        { h.2 with
          eng :=
            { phase := .addressed, slot := slot, dir := dir, cnt := 0, rem := h.1.cap
              grant := if h.1.cap = 0 then none else h.1.grant }
          log := h.2.log ++ [.ack .ack] }

/-- EV_ADDR_W and EV_ADDR_R to an Empty slot (R131, R125, R284): Nack, no call, and the transaction is open with no
capacity and the watchdog armed. -/
def Obligations.AddressOfAnEmptySlotIsNacked : Prop :=
  ∀ (s : State) (slot : Slot) (dir : Dir), s.deviceAt slot = none → s.cfg.answers slot = true →
    exec (match dir with | .write => .evAddrW s.cfg.base slot | .read => .evAddrR s.cfg.base slot) s =
      .next
        { restartStop s with
          eng := drained .addressed slot dir
          wd := armedWatchdog s.cfg
          log := (restartStop s).log ++ [.ack .nack] }

/-- The address-phase acknowledge (R132): the last record of an address event is Ack exactly when the slot holds a
device. -/
def Obligations.AddressAckTellsARegisteredSlot : Prop :=
  ∀ (s : State) (slot : Slot) (dir : Dir), s.cfg.answers slot = true → ∃ t,
    exec (match dir with | .write => .evAddrW s.cfg.base slot | .read => .evAddrR s.cfg.base slot) s = .next t ∧
      ∃ rs a, t.log = s.log ++ rs ++ [.ack a] ∧ (a = .ack ↔ s.deviceAt slot ≠ none)

/-- A restart of a transaction with bytes counted delivers Stop with the count to the old device, then Start with 0 to
the new one (R131, R138); without bytes counted, or from Idle, Start alone. What the Stop changes is what the old
device's Stop handler changes, its Call recorded first (log 13); nothing where no Stop is owed or the old slot is Empty. -/
def Obligations.RestartDeliversStopThenStart : Prop :=
  (∀ s : State, s.eng.phase = .idle ∨ s.eng.cnt = 0 ∨ s.deviceAt s.eng.slot = none → restartStop s = s) ∧
  (∀ (s : State) (k : DeviceKind), s.eng.phase ≠ .idle → s.eng.cnt ≠ 0 → s.deviceAt s.eng.slot = some k →
    restartStop s =
      (handler k ⟨s.eng.dir, .stop⟩ s.eng.cnt
        { s with log := s.log ++ [.call s.eng.slot ⟨s.eng.dir, .stop⟩ s.eng.cnt] }).2) ∧
  ∀ (s : State) (slot : Slot) (dir : Dir) (kOld kNew : DeviceKind),
    s.deviceAt s.eng.slot = some kOld → s.deviceAt slot = some kNew → s.cfg.answers slot = true →
    ∃ t rs, exec (match dir with | .write => .evAddrW s.cfg.base slot | .read => .evAddrR s.cfg.base slot) s = .next t ∧
      t.log = s.log ++ rs ∧
      callsOf rs =
        (if s.eng.phase ≠ .idle ∧ s.eng.cnt ≠ 0 then [(s.eng.slot, ⟨s.eng.dir, .stop⟩, s.eng.cnt)] else []) ++
          [(slot, ⟨dir, .start⟩, 0)]

/-- An address outside the window, the general-call address and a 10-bit address prefix are no events, at any value of
`P_BASE_ADDR`: nothing changes (R82, R96; the prefix 11110xx and the direction of a general call, log 27). -/
def Obligations.AddressOutsideTheWindowChangesNothing : Prop :=
  ∀ (s : State) (b : BitVec 5) (slot : Slot), b ≠ s.cfg.base ∨ b = 0 ∧ slot = 0 ∨ b = 0b11110 →
    exec (.evAddrW b slot) s = .next s ∧ exec (.evAddrR b slot) s = .next s

/-- EV_STOP and EV_ERROR (R136, R137, R140): nothing while Idle; else the device's Stop or Error handler runs with
`eng.cnt`, and the engine is Idle with the watchdog disabled. An Empty slot is not called. The handler that the engine
calls for a device and a phase, here and everywhere, is the one of the phase row of that device and phase (R100, R111,
R112): the row run alone, as the model's log 10 has it, is that handler, its answer kept in `ans`. -/
def Obligations.StopAndErrorEndTheTransaction : Prop :=
  (∀ (s : State) (k : DeviceKind) (ph : Phase) (n : Count),
    let h := handler k ph n { s with log := s.log ++ [.call s.eng.slot ph n] }
    exec (decodePhase k ph n) s =
      .next
        { h.2 with ans := if h.1.cap = 0 then { grant := none, cap := 0, ack := h.1.ack } else h.1 }) ∧
  ∀ (s : State) (i : Instr) (kd : PhaseKind), (i = .evStop ∧ kd = .stop ∨ i = .evError ∧ kd = .error) →
    (s.eng.phase = .idle → exec i s = .next s) ∧
    (s.eng.phase ≠ .idle → s.deviceAt s.eng.slot = none →
      exec i s = .next { s with eng := drained .idle s.eng.slot s.eng.dir, wd := offWatchdog }) ∧
    ∀ k, s.eng.phase ≠ .idle → s.deviceAt s.eng.slot = some k →
      exec i s =
        .next
          { (handler k ⟨s.eng.dir, kd⟩ s.eng.cnt
              { s with log := s.log ++ [.call s.eng.slot ⟨s.eng.dir, kd⟩ s.eng.cnt] }).2 with
            eng := drained .idle s.eng.slot s.eng.dir
            wd := offWatchdog }

/-! ## The engine: data -/

/-- EV_DATA_RX and EV_DATA_TX with no transaction open (R135): Nack and FILL, no call, no re-arm, no state change. -/
def Obligations.DataWhileIdleIsRefused : Prop :=
  ∀ (s : State) (rx : Byte) (mNack : Bool), s.eng.phase = .idle →
    exec (.evDataRx rx mNack) s = .next { s with log := s.log ++ [.ack .nack, .tx 0xFF] } ∧
    exec (.evDataTx rx mNack) s = .next { s with log := s.log ++ [.ack .nack, .tx 0xFF] }

/-- The direction of a data event comes from `eng.dir`, not from the event (R95; both rows act so, log 15). With
`eng.dir` Write either row receives: the granted byte holds `rx`, one acknowledge is driven, no byte is sent, and
`mNack` does not matter (R134). With `eng.dir` Read either row sends: one byte, the granted one while there is one, no
acknowledge, and `rx` does not matter (R133). -/
def Obligations.DataDirectionIsTheTransactions : Prop :=
  ∀ (s : State) (rx : Byte) (mNack : Bool) (i : Instr), inv s = true → s.eng.phase ≠ .idle →
    (i = .evDataRx rx mNack ∨ i = .evDataTx rx mNack) →
    ∃ t rs, exec i s = .next t ∧ t.log = s.log ++ rs ∧
      (s.eng.dir = .write →
        (acksOf rs).length = 1 ∧ txBytes rs = [] ∧
        (∀ w, s.eng.grant = some w → s.eng.rem ≠ 0 → t.readByte w.space (w.base + s.eng.cnt.toNat) = some rx) ∧
        ∀ other : Bool, exec (.evDataRx rx other) s = .next t ∧ exec (.evDataTx rx other) s = .next t) ∧
      (s.eng.dir = .read →
        acksOf rs = [] ∧ (txBytes rs).length = 1 ∧
        (∀ w, s.eng.grant = some w → s.eng.rem ≠ 0 → mNack = false →
          (txBytes rs).head? = s.readByte w.space (w.base + s.eng.cnt.toNat)) ∧
        ∀ other : Byte, exec (.evDataRx other mNack) s = .next t ∧ exec (.evDataTx other mNack) s = .next t)

/-- EV_DATA_RX in a write transaction (R134), all three cases: no capacity left, a byte that leaves capacity, and the
byte that fills the grant. In the last the device's WriteBufferFull answer gives the acknowledge and the new grant. -/
def Obligations.WriteDataByte : Prop :=
  ∀ (s : State) (rx : Byte) (mNack : Bool), s.eng.phase ≠ .idle → s.eng.dir = .write → grantInv s = true →
    (s.eng.rem = 0 →
      exec (.evDataRx rx mNack) s =
        .next
          { s with
            eng := { s.eng with phase := .exchanging }, wd := armedWatchdog s.cfg, log := s.log ++ [.ack .nack] }) ∧
    ∀ w, s.eng.grant = some w → s.eng.rem ≠ 0 →
      let u := s.storeByte w.space (w.base + s.eng.cnt.toNat) rx
      let e := { s.eng with phase := .exchanging, cnt := s.eng.cnt + 1, rem := s.eng.rem - 1 }
      (s.eng.rem ≠ 1 →
        exec (.evDataRx rx mNack) s =
          .next { u with eng := e, wd := armedWatchdog s.cfg, log := s.log ++ [.ack .ack] }) ∧
      (s.eng.rem = 1 →
        let h :=
          handler w.space.owner ⟨.write, .boundary⟩ (s.eng.cnt + 1)
            { u with
              eng := e, wd := armedWatchdog s.cfg
              log := s.log ++ [.call s.eng.slot ⟨.write, .boundary⟩ (s.eng.cnt + 1)] }
        exec (.evDataRx rx mNack) s =
          .next
            { h.2 with
              eng := { e with cnt := 0, rem := h.1.cap, grant := if h.1.cap = 0 then none else h.1.grant }
              log := h.2.log ++ [.ack h.1.ack] })

/-- EV_DATA_RX stores one byte and no other (R40, R134): with capacity left in an SRAM grant, the SRAM byte the grant
and the count give reads as the byte received; every other SRAM byte, and every SRAM byte of a transaction with no
capacity or another grant, reads as before. -/
def Obligations.WriteDataByteStoresOneSramByte : Prop :=
  ∀ (s : State) (rx : Byte) (mNack : Bool), s.eng.phase ≠ .idle → s.eng.dir = .write → grantInv s = true →
    Memory.wf s.sram.mem = true →
    ∃ t, exec (.evDataRx rx mNack) s = .next t ∧
      ∀ a : Nat, a < 512 → Memory.read a t.sram.mem =
        match s.eng.grant with
        | none => Memory.read a s.sram.mem
        | some w =>
          if s.eng.rem ≠ 0 ∧ w.space = .sram ∧ a = w.base + s.eng.cnt.toNat then rx else Memory.read a s.sram.mem

/-- EV_DATA_TX in a read transaction (R133): FILL after the master's NACK once a byte of the grant was sent; else the
next granted byte while capacity is left; else the device is asked, and the first byte of its new window is sent, or
FILL where it grants none. -/
def Obligations.ReadDataByte : Prop :=
  ∀ (s : State) (rx : Byte) (mNack : Bool), s.eng.phase ≠ .idle → s.eng.dir = .read → grantInv s = true →
    s.ee.win.length = s.cfg.eeWindow.toNat →
    (mNack = true → s.eng.cnt ≠ 0 →
      exec (.evDataTx rx mNack) s =
        .next
          { s with
            eng := { s.eng with phase := .exchanging }, wd := armedWatchdog s.cfg, log := s.log ++ [.tx 0xFF] }) ∧
    ((mNack = false ∨ s.eng.cnt = 0) →
      (∀ w, s.eng.grant = some w → s.eng.rem ≠ 0 →
        ∃ b, s.readByte w.space (w.base + s.eng.cnt.toNat) = some b ∧
          exec (.evDataTx rx mNack) s =
            .next
              { s with
                eng := { s.eng with phase := .exchanging, cnt := s.eng.cnt + 1, rem := s.eng.rem - 1 }
                wd := armedWatchdog s.cfg
                log := s.log ++ [.tx b] }) ∧
      (∀ k, s.deviceAt s.eng.slot = some k → s.eng.rem = 0 →
        let h :=
          handler k ⟨.read, .boundary⟩ s.eng.cnt
            { s with
              eng := { s.eng with phase := .exchanging }, wd := armedWatchdog s.cfg
              log := s.log ++ [.call s.eng.slot ⟨.read, .boundary⟩ s.eng.cnt] }
        (h.1.cap = 0 →
          exec (.evDataTx rx mNack) s =
            .next { h.2 with eng := drained .exchanging s.eng.slot .read, log := h.2.log ++ [.tx 0xFF] }) ∧
        (h.1.cap ≠ 0 →
          ∃ w b, h.1.grant = some w ∧ h.2.readByte w.space w.base = some b ∧
            exec (.evDataTx rx mNack) s =
              .next
                { h.2 with
                  eng :=
                    { phase := .exchanging, slot := s.eng.slot, dir := .read, cnt := 1, rem := h.1.cap - 1
                      grant := some w }
                  log := h.2.log ++ [.tx b] })) ∧
      (s.deviceAt s.eng.slot = none → s.eng.rem = 0 →
        exec (.evDataTx rx mNack) s =
          .next
            { s with
              eng := drained .exchanging s.eng.slot .read, wd := armedWatchdog s.cfg, log := s.log ++ [.tx 0xFF] }))

/-- A transaction with an Empty slot (R125, R284): every byte written is Nacked, every byte read is FILL, and no device
changes. -/
def Obligations.EmptySlotRefusesEveryByte : Prop :=
  ∀ (s : State) (slot : Slot) (bs : List Byte) (reqs : List Bool), s.deviceAt slot = none →
    s.cfg.answers slot = true →
    (∃ t, execAll (.evAddrW s.cfg.base slot :: bs.map fun b => .evDataRx b false) s = some t ∧
      t.log = (restartStop s).log ++ List.replicate (bs.length + 1) (.ack .nack) ∧ t.ee = (restartStop s).ee ∧
      t.adc = (restartStop s).adc ∧ t.gpi = (restartStop s).gpi ∧ t.sram = (restartStop s).sram) ∧
    ∃ t, execAll (.evAddrR s.cfg.base slot :: reqs.map fun r => .evDataTx 0 r) s = some t ∧
      t.log = (restartStop s).log ++ Record.ack .nack :: List.replicate reqs.length (.tx 0xFF) ∧
      t.ee = (restartStop s).ee ∧
      t.adc = (restartStop s).adc ∧ t.gpi = (restartStop s).gpi ∧ t.sram = (restartStop s).sram

/-- The engine touches no device but the one in the transaction's slot and the one the address selects (R40, R126). -/
def Obligations.EventsLeaveOtherDevicesAlone : Prop :=
  ∀ (s : State) (e : BusEvent), grantInv s = true → ∃ t, exec (decodeEvent s.ctx e) s = .next t ∧
    ∀ k : DeviceKind, s.deviceAt s.eng.slot ≠ some k → (∀ a, e = .addr a → s.deviceAt (slotOf a) ≠ some k) →
      match k with
      | .eeprom => t.ee = s.ee
      | .adc => t.adc = s.adc
      | .gpi => t.gpi = s.gpi
      | .sram => t.sram = s.sram

/-! ## The tick (spec/42_bus_watchdog.md) -/

/-- EV_TICK with no event between its sections (R161 to R163): a disabled watchdog does nothing; a count above 1 goes
down; a count of 1 expires, which restarts the peripheral and leaves the engine Idle, no device called. `gpiTick` is the
GPI half. -/
def Obligations.TickCountsDownAndExpires : Prop :=
  ∀ s : State, s.fault = none →
    (s.wd.enabled = false → exec (.evTick []) s = .next (gpiTick s)) ∧
    (s.wd.enabled = true → 2 ≤ s.wd.count →
      exec (.evTick []) s = .next (gpiTick { s with wd := { enabled := true, count := s.wd.count - 1 } })) ∧
    (s.wd.enabled = true → s.wd.count = 1 →
      exec (.evTick []) s =
        .next
          (gpiTick
            { s with
              eng := drained .idle s.eng.slot s.eng.dir, wd := offWatchdog, log := s.log ++ [.periphRestart] }))

/-- The GPI half of EV_TICK (R163, R240, R250): the pins are sampled at every `P_GPI_PERIOD`-th tick where `reg` holds a
GPI device, whatever `gpi.armed` is and whatever the bus does, a transaction open or not; the latch collects every
delta, masked or not. `watchdogStep s` is the state the tick's watchdog half leaves, which TickCountsDownAndExpires
gives. -/
def Obligations.TickSamplesThePinsAtItsPeriod : Prop :=
  ∀ s : State, s.fault = none → ∃ t, exec (.evTick []) s = .next t ∧
    let v := watchdogStep s
    t.eng = v.eng ∧ t.wd = v.wd ∧ t.ee = s.ee ∧ t.adc = s.adc ∧ t.sram = s.sram ∧ t.reg = s.reg ∧ t.fault = none ∧
    (s.gpiCount + 1 ≠ s.cfg.gpiPeriod → t = { v with gpiCount := s.gpiCount + 1 }) ∧
    (s.gpiCount + 1 = s.cfg.gpiPeriod → t.gpiCount = 0 ∧
      ((∀ slot, s.deviceAt slot ≠ some .gpi) → t = { v with gpiCount := 0 }) ∧
      ((∃ slot, s.deviceAt slot = some .gpi) →
        (∃ rs, t.log = v.log ++ rs ∧ rs = if t.gpi.irq = s.gpi.irq then [] else [.irq t.gpi.irq]) ∧
        t.asked = s.asked ++ [.pinRead] ∧
        t.gpi =
          { s.gpi with
            prev := s.gpi.cur, cur := s.answerTo .pinRead
            trans := s.gpi.trans ||| (s.answerTo .pinRead ^^^ s.gpi.cur) }))

/-- EV_TICK with engine events between its two critical sections (R163, R292): the watchdog step, then each event's own
operation in order, then the GPI step on the state they leave. -/
def Obligations.TickTakesEventsBetweenItsSections : Prop :=
  ∀ (s : State) (es : List BusEvent), inv s = true →
    ∃ v, execAll (es.map (decodeEvent s.ctx)) (watchdogStep s) = some v ∧ v.fault = none ∧
      exec (.evTick es) s = .next (gpiTick v)

/-- The expiry law (R165): an open transaction with its watchdog just armed, no more events, the ticks going on. Before
the `P_TIMEOUT`-th tick the transaction is open and the peripheral is not restarted; from that tick on the engine is
Idle, the watchdog disabled, and the peripheral was restarted exactly once. -/
def Obligations.SilenceRestartsThePeripheralOnce : Prop :=
  ∀ (s : State) (n : Nat), inv s = true → s.eng.phase ≠ .idle → s.wd.count = s.cfg.timeout →
    ∃ t rs, execAll (List.replicate n (.evTick [])) s = some t ∧ t.log = s.log ++ rs ∧
      (n < s.cfg.timeout → t.eng = s.eng ∧ t.wd.count = s.cfg.timeout - n ∧ restarts rs = 0) ∧
      (s.cfg.timeout ≤ n → t.eng = drained .idle s.eng.slot s.eng.dir ∧ t.wd = offWatchdog ∧ restarts rs = 1) ∧
      callsOf rs = [] ∧ t.ee = s.ee ∧ t.adc = s.adc ∧ t.sram = s.sram

/-! ## EEPROM phase handlers (spec/43_eeprom.md) -/

/-- EE.WriteStart, EE.WriteStop and EE.WriteError (R186, R188, R189), each run alone for the slot `eng.slot` with its
answer in `ans` (the model's choice, log 10, the Ack of Stop and Error among it): the staging window of 3 bytes; the
cursor from two staged bytes, not from one or none; nothing. -/
def Obligations.EepromWriteSideHandlers : Prop :=
  ∀ (s : State) (n : Count),
    let stopped :=
      { s with
        log := s.log ++ [.call s.eng.slot ⟨.write, .stop⟩ n], ans := { grant := none, cap := 0, ack := .ack } }
    exec (.eeWriteStart n) s =
      .next
        { s with
          log := s.log ++ [.call s.eng.slot ⟨.write, .start⟩ n]
          ans := { grant := some { space := .eeStage, base := 0, len := 3 }, cap := 3, ack := .ack } } ∧
    (2 ≤ n.toNat →
      exec (.eeWriteStop n) s =
        .next { stopped with ee := { s.ee with cursor := s.ee.stage[0] ++ s.ee.stage[1] } }) ∧
    (n.toNat < 2 → exec (.eeWriteStop n) s = .next stopped) ∧
    exec (.eeWriteError n) s =
      .next
        { s with
          log := s.log ++ [.call s.eng.slot ⟨.write, .error⟩ n], ans := { grant := none, cap := 0, ack := .ack } }

/-- EE.WriteBufferFull (R187, R184), run alone with its answer in `ans` (the model's choice, log 10), the index into the
persistent store kept in 16 bits (the model's choice, log 23): the cursor is the staged address; a special address
writes its register or the supervised control, in R187's order; any other is a store write, committed in an OPEN region
or in a PROTECTED region with the matching arm, rejected otherwise, the arm cleared either way. -/
def Obligations.EepromWriteBufferFullAppliesThePolicy : Prop :=
  ∀ (s : State) (n : Count),
    let a : U16 := s.ee.stage[0] ++ s.ee.stage[1]
    let d : Byte := s.ee.stage[2]
    let called := s.log ++ [.call s.eng.slot ⟨.write, .boundary⟩ n]
    let done (ee : Eeprom) (log : List Record) (k : Ack) : State :=
      { s with ee := ee, log := log, ans := { grant := none, cap := 0, ack := k } }
    let ee := { s.ee with cursor := a }
    let cleared := { s.ee with cursor := a, arm := s.cfg.armClear }
    (a = s.cfg.weHi →
      exec (.eeWriteBufferFull n) s = .next (done { ee with arm := { s.ee.arm with hi := some d } } called .ack)) ∧
    (a ≠ s.cfg.weHi → a = s.cfg.weLo →
      exec (.eeWriteBufferFull n) s = .next (done { ee with arm := { s.ee.arm with lo := some d } } called .ack)) ∧
    (a ≠ s.cfg.weHi → a ≠ s.cfg.weLo → a = s.cfg.weData →
      exec (.eeWriteBufferFull n) s = .next (done { ee with arm := { s.ee.arm with data := some d } } called .ack)) ∧
    (a ≠ s.cfg.weHi → a ≠ s.cfg.weLo → a ≠ s.cfg.weData → a = s.cfg.eeCtrl →
      exec (.eeWriteBufferFull n) s = .next (done ee (called ++ [.superviseCtrl d]) .ack)) ∧
    (s.cfg.isSpecial a = false → ∀ r, regionAt s.cfg a = some r → r.kind = .persist →
      (r.access = .openAccess ∨
        r.access = .protect ∧
          s.ee.arm = ⟨some (a.extractLsb' 8 8), some (a.extractLsb' 0 8), some d⟩) →
      exec (.eeWriteBufferFull n) s = .next (done cleared (called ++ [.persistWrite (r.off + (a - r.lo)) d]) .ack)) ∧
    (s.cfg.isSpecial a = false →
      (∀ r, regionAt s.cfg a = some r →
        r.kind ≠ .persist ∨ r.access = .ro ∨
          r.access = .protect ∧
            s.ee.arm ≠ ⟨some (a.extractLsb' 8 8), some (a.extractLsb' 0 8), some d⟩) →
      exec (.eeWriteBufferFull n) s = .next (done cleared called .nack))

/-- EE.ReadStart, EE.ReadBufferEmpty, EE.ReadStop and EE.ReadError (R190 to R193), each run alone with its answer in
`ans` (the model's choice, log 10, the Ack of Stop and Error among it): the window is filled from the cursor and
granted; the cursor advances by the bytes consumed, modulo 65536. -/
def Obligations.EepromReadSideHandlers : Prop :=
  ∀ (s : State) (n : Count), s.cfg.eeWindow ≠ 0 →
    let size := s.cfg.eeWindow
    let granted : Answer := { grant := some { space := .eeWin, base := 0, len := size }, cap := size, ack := .ack }
    let ended : Answer := { grant := none, cap := 0, ack := .ack }
    let started := { s with log := s.log ++ [.call s.eng.slot ⟨.read, .start⟩ n] }
    let emptied :=
      { s with
        log := s.log ++ [.call s.eng.slot ⟨.read, .boundary⟩ n], ee := { s.ee with cursor := s.ee.cursor + n } }
    let fill0 := eeBytes size.toNat s.ee.cursor started
    let fill1 := eeBytes size.toNat (s.ee.cursor + n) emptied
    exec (.eeReadStart n) s = .next { fill0.2 with ee := { s.ee with win := fill0.1 }, ans := granted } ∧
    exec (.eeReadBufferEmpty n) s =
      .next { fill1.2 with ee := { s.ee with cursor := s.ee.cursor + n, win := fill1.1 }, ans := granted } ∧
    exec (.eeReadStop n) s =
      .next
        { s with
          log := s.log ++ [.call s.eng.slot ⟨.read, .stop⟩ n]
          ee := { s.ee with cursor := s.ee.cursor + n }, ans := ended } ∧
    exec (.eeReadError n) s =
      .next
        { s with
          log := s.log ++ [.call s.eng.slot ⟨.read, .error⟩ n]
          ee := { s.ee with cursor := s.ee.cursor + n }, ans := ended }

/-- The bytes of a read window (R181, R185): byte `i` is the EEPROM's value at cursor + i, modulo 65536, each through
its own region: an answer of the region's store, or the fill value where the address is unmapped or reserved. The region
of an address is the listed one that holds it, and there is none exactly where no listed one does (R180). The index into
a store is kept in 16 bits (the model's choice, log 23). -/
def Obligations.WindowBytesComeFromTheRegionMap : Prop :=
  (∀ (k i : Nat) (c : U16) (s : State), i < k →
    (eeBytes k c s).1.length = k ∧
    (eeBytes k c s).1[i]? = some (eeByte (c + BitVec.ofNat 16 i) (eeBytes i c s).2).1) ∧
  (∀ (p : Params) (a : U16),
    (regionAt p a = none ↔ ∀ r ∈ p.eeRegions, ¬ (r.lo.toNat ≤ a.toNat ∧ a.toNat ≤ r.hi.toNat)) ∧
    (∀ r, regionAt p a = some r → r ∈ p.eeRegions) ∧
    (regionsWf p.eeRegions = true →
      ∀ r, regionAt p a = some r ↔ r ∈ p.eeRegions ∧ r.lo.toNat ≤ a.toNat ∧ a.toNat ≤ r.hi.toNat)) ∧
  ∀ (a : U16) (s : State),
    (regionAt s.cfg a = none → eeByte a s = (s.cfg.eeFill, s)) ∧
    ∀ r, regionAt s.cfg a = some r →
      r.lo.toNat ≤ a.toNat ∧ a.toNat ≤ r.hi.toNat ∧
      (r.kind = .persist → (eeByte a s).1 = s.answerTo (.persistRead (r.off + (a - r.lo)))) ∧
      (r.kind = .program → (eeByte a s).1 = s.answerTo (.progRead (r.off + (a - r.lo)))) ∧
      (r.kind = .snapshot → (eeByte a s).1 = s.answerTo (.regSnap (r.off + (a - r.lo)))) ∧
      (r.kind = .fillr → eeByte a s = (s.cfg.eeFill, s))

/-! ## EEPROM frames -/

/-- EE_WRITE_BYTE (R85, R187, R184): a store write commits exactly when the policy accepts it; its acknowledge is the
data byte's, the arm is cleared either way, the cursor is the address, and nothing but the EEPROM, the engine, the
watchdog and the log changes. The index into the store is kept in 16 bits (the model's choice, log 23). -/
def Obligations.EeWriteByteFrame : Prop :=
  ∀ (s : State) (slot : Slot) (hi lo d : Byte), s.fault = none → s.deviceAt slot = some .eeprom →
    s.cfg.answers slot = true → s.cfg.isSpecial (hi ++ lo) = false →
    let r := restartStop s
    let head := r.log ++ [.call slot ⟨.write, .start⟩ 0, .ack .ack, .ack .ack, .ack .ack, .call slot ⟨.write, .boundary⟩ 3]
    exec (.eeWriteByte slot hi lo d) s =
      .next
        { r with
          eng := drained .exchanging slot .write
          wd := armedWatchdog s.cfg
          ee := { r.ee with cursor := hi ++ lo, arm := s.cfg.armClear, stage := #v[hi, lo, d] }
          log :=
            if eeAccepts (hi ++ lo) d s then
              head ++ [.persistWrite (eeStoreIndex s.cfg (hi ++ lo)) d, .ack .ack]
            else head ++ [.ack .nack] }

/-- EE_ARM_HI, EE_ARM_LO, EE_ARM_DATA and EE_CTRL (R87, R187): each writes its own register, or the supervised control,
and no other; all are acknowledged; the cursor is the address. -/
def Obligations.EeRegisterFrames : Prop :=
  ∀ (s : State) (slot : Slot) (d : Byte), s.fault = none → s.deviceAt slot = some .eeprom →
    s.cfg.answers slot = true → s.cfg.specialsApart = true →
    let r := restartStop s
    let done (a : U16) (arm : Arm) (out : List Record) : State :=
      { r with
        eng := drained .exchanging slot .write
        wd := armedWatchdog s.cfg
        ee := { r.ee with cursor := a, arm := arm, stage := #v[a.extractLsb' 8 8, a.extractLsb' 0 8, d] }
        log :=
          r.log ++
            [.call slot ⟨.write, .start⟩ 0, .ack .ack, .ack .ack, .ack .ack, .call slot ⟨.write, .boundary⟩ 3] ++
              out ++ [.ack .ack] }
    exec (.eeArmHi slot d) s = .next (done s.cfg.weHi { r.ee.arm with hi := some d } []) ∧
    exec (.eeArmLo slot d) s = .next (done s.cfg.weLo { r.ee.arm with lo := some d } []) ∧
    exec (.eeArmData slot d) s = .next (done s.cfg.weData { r.ee.arm with data := some d } []) ∧
    exec (.eeCtrl slot d) s = .next (done s.cfg.eeCtrl r.ee.arm [.superviseCtrl d])

/-- EE_SET_CURSOR (R86, R188): with P the cursor is the address and the engine is Idle; with Sr the two staged bytes
wait for the Stop that the next address byte delivers, which sets the cursor. -/
def Obligations.EeSetCursorFrame : Prop :=
  ∀ (s : State) (slot : Slot) (hi lo : Byte), s.fault = none → s.deviceAt slot = some .eeprom →
    s.cfg.answers slot = true →
    let r := restartStop s
    let staged := { r.ee with stage := #v[hi, lo, r.ee.stage[2]] }
    let head := r.log ++ [.call slot ⟨.write, .start⟩ 0, .ack .ack, .ack .ack, .ack .ack]
    exec (.eeSetCursor slot hi lo .stop) s =
      .next
        { r with
          eng := drained .idle slot .write
          wd := offWatchdog
          ee := { staged with cursor := hi ++ lo }
          log := head ++ [.call slot ⟨.write, .stop⟩ 2] } ∧
    ∃ t, exec (.eeSetCursor slot hi lo .restart) s = .next t ∧
      t =
        { r with
          eng :=
            { phase := .exchanging, slot := slot, dir := .write, cnt := 2, rem := 1
              grant := some { space := .eeStage, base := 0, len := 3 } }
          wd := armedWatchdog s.cfg
          ee := staged
          log := head } ∧
      (restartStop t).ee = { staged with cursor := hi ++ lo }

/-- EE_READ within one window (R86, R190, R133): the window is filled from the cursor at the address byte; the bytes
sent are the window's in order, and FILL for a request after the master's NACK; the cursor does not move before the
window is used up or the transaction ends. -/
def Obligations.EeReadFrameSendsTheWindow : Prop :=
  ∀ (s : State) (slot : Slot) (reqs : List Bool), s.fault = none → s.deviceAt slot = some .eeprom →
    s.cfg.answers slot = true → s.cfg.eeWindow ≠ 0 → consumed true reqs ≤ s.cfg.eeWindow.toNat →
    ∃ t, exec (.eeRead slot reqs) s = .next t ∧
      let r := restartStop s
      let opened :=
        { r with
          eng := drained .addressed slot .read, wd := armedWatchdog s.cfg
          log := r.log ++ [.call slot ⟨.read, .start⟩ 0] }
      let fill := eeBytes s.cfg.eeWindow.toNat r.ee.cursor opened
      t.ee = { r.ee with win := fill.1 } ∧
      t.log = r.log ++ Record.call slot ⟨.read, .start⟩ 0 :: Record.ack .ack :: (streamed fill.1 true reqs).map Record.tx ∧
      t.asked = fill.2.asked ∧ t.eng.phase ≠ .idle ∧ t.eng.slot = slot ∧ t.eng.dir = .read ∧
      t.eng.cnt.toNat = consumed true reqs ∧
      t.eng.rem.toNat = s.cfg.eeWindow.toNat - consumed true reqs ∧ t.wd = armedWatchdog s.cfg ∧
      t.adc = r.adc ∧ t.gpi = r.gpi ∧ t.sram = r.sram ∧ t.gpiCount = s.gpiCount ∧ t.reg = s.reg ∧
      t.fault = none

/-- Every read frame, of any number of requests and with the master's NACK at any of them, sends exactly one byte for
each request and faults at none (R133, R97). -/
def Obligations.ReadFramesSendOneByteARequest : Prop :=
  ∀ (s : State) (slot : Slot) (reqs : List Bool) (i : Instr), inv s = true → s.cfg.answers slot = true →
    (i = .eeRead slot reqs ∨ i = .adcRead slot reqs ∨ i = .gpiRead slot reqs ∨ i = .sramRead slot reqs) →
    ∃ t rs, exec i s = .next t ∧ t.log = s.log ++ rs ∧ (txBytes rs).length = reqs.length ∧ inv t = true

/-- The protected-write law (R194), for that order of the arm writes, the store index kept in 16 bits (the model's
choice, log 23): after the three arm registers are written with A and D, a write of D' to a PROTECTED address A' outside
the special addresses commits exactly when A' = A and D' = D; it is acknowledged exactly then, and the arm is cleared in
both cases. -/
def Obligations.ProtectedWriteNeedsTheExactArm : Prop :=
  ∀ (s : State) (slot : Slot) (a a' : U16) (d d' : Byte) (r : Region), s.fault = none →
    s.deviceAt slot = some .eeprom → s.cfg.answers slot = true → s.cfg.specialsApart = true →
    s.cfg.isSpecial a' = false →
    regionAt s.cfg a' = some r → r.kind = .persist → r.access = .protect →
    ∃ t rs,
      execAll
          [.eeArmHi slot (a.extractLsb' 8 8), .evStop, .eeArmLo slot (a.extractLsb' 0 8), .evStop,
            .eeArmData slot d, .evStop, .eeWriteByte slot (a'.extractLsb' 8 8) (a'.extractLsb' 0 8) d'] s =
        some t ∧
      t.log = s.log ++ rs ∧
      persistWrites rs = (if a' = a ∧ d' = d then [(r.off + (a' - r.lo), d')] else []) ∧
      (acksOf rs).getLast? = some (if a' = a ∧ d' = d then .ack else .nack) ∧ t.ee.arm = s.cfg.armClear

/-- Idempotent rejection (R195): where clearing leaves the arm invalid, a store write to a PROTECTED address that the
arm does not match is rejected, and so is its repeat; nothing reaches the store. -/
def Obligations.RejectedWriteStaysRejected : Prop :=
  ∀ (s : State) (slot : Slot) (hi lo d : Byte) (r : Region), s.fault = none → s.deviceAt slot = some .eeprom →
    s.cfg.answers slot = true → s.cfg.armClear = ⟨none, none, none⟩ → s.cfg.isSpecial (hi ++ lo) = false →
    regionAt s.cfg (hi ++ lo) = some r → r.access = .protect → s.ee.arm ≠ ⟨some hi, some lo, some d⟩ →
    ∃ t u rs, exec (.eeWriteByte slot hi lo d) s = .next t ∧ ArmClear t ∧ exec (.eeWriteByte slot hi lo d) t = .next u ∧
      ArmClear u ∧ u.log = s.log ++ rs ∧ persistWrites rs = [] ∧ (acksOf rs).getLast? = some .nack

/-- Only a store write clears the arm (R196): an operation that ends no F-EE-W but a control write leaves all three arm
registers as they are, a data event short of the F-EE-W's last byte and a tick with bus events between its halves among
them; and so does any operation at all in which EE.WriteBufferFull is not called. -/
def Obligations.OnlyEepromWritesTouchTheArm : Prop :=
  (∀ (s t : State) (i : Instr), s.cfg.specialsApart = true → i.wf s.ctx = true → keepsArm s i = true →
    exec i s = .next t → t.ee.arm = s.ee.arm) ∧
  ∀ (s t : State) (i : Instr), i.wf s.ctx = true → exec i s = .next t → ∃ rs, t.log = s.log ++ rs ∧
    ((∀ c ∈ callsOf rs, isEeWriteFull s c = false) → t.ee.arm = s.ee.arm)

/-! ## ADC (spec/44_adc.md) -/

/-- The ADC's phase handlers but ReadStart (R221 to R224, R226 to R228), each run alone with its answer in `ans` (the
model's choice, log 10, the Ack of Stop and Error among it): the staging byte is granted; the command byte sets the
three fields; every other handler changes nothing and grants nothing. -/
def Obligations.AdcHandlersWithoutConversion : Prop :=
  ∀ (s : State) (n : Count),
    let called (ph : Phase) (a : Answer) : State := { s with log := s.log ++ [.call s.eng.slot ph n], ans := a }
    let nothing : Answer := { grant := none, cap := 0, ack := .ack }
    let b := s.adc.stage
    exec (.adcWriteStart n) s =
      .next
        (called ⟨.write, .start⟩
          { grant := some { space := .adcStage, base := 0, len := 1 }, cap := 1, ack := .ack }) ∧
    exec (.adcWriteBufferFull n) s =
      .next
        { called ⟨.write, .boundary⟩ nothing with
          adc :=
            { s.adc with
              se := b.getLsbD 7 == s.cfg.adcSeValue, chan := b.extractLsb' 4 3, ref := b.extractLsb' 3 1 } } ∧
    exec (.adcWriteStop n) s = .next (called ⟨.write, .stop⟩ nothing) ∧
    exec (.adcWriteError n) s = .next (called ⟨.write, .error⟩ nothing) ∧
    exec (.adcReadBufferEmpty n) s = .next (called ⟨.read, .boundary⟩ nothing) ∧
    exec (.adcReadStop n) s = .next (called ⟨.read, .stop⟩ nothing) ∧
    exec (.adcReadError n) s = .next (called ⟨.read, .error⟩ nothing)

/-- ADC.ReadStart (R225, R220), run alone with its answer in `ans` (the model's choice, log 10): one sample of the
selected hardware channel when single-ended; else the channel's sample and then its pair's, and the encoding of their
difference. Which of the two is taken from the other goes by the low bit of the logical channel and by `P_ADC_DIFF_POL`;
the encoding is `d mod 256`, or entry `d + 255` of a table (the form of `P_ADC_DIFF_ENC`, log 19). -/
def Obligations.AdcReadStartConverts : Prop :=
  ∀ (s : State) (n : Count),
    let called : State := { s with log := s.log ++ [.call s.eng.slot ⟨.read, .start⟩ n] }
    let granted : Answer := { grant := some { space := .adcRes, base := 0, len := 1 }, cap := 1, ack := .ack }
    let q0 : Request := .adcSample s.cfg.adcMap[s.adc.chan.toNat] s.adc.ref
    let q1 : Request := .adcSample s.cfg.adcMap[(s.adc.chan ^^^ 4#3).toNat] s.adc.ref
    let a := s.answerTo q0
    let b := (called.noteRead q0).answerTo q1
    (s.adc.se = true →
      exec (.adcReadStart n) s =
        .next { called with draws := s.draws.tail, asked := s.asked ++ [q0], adc := { s.adc with res := a }, ans := granted }) ∧
    (s.adc.se = false →
      let minuend : Int := if s.adc.chan.getLsbD 0 = (s.cfg.adcDiffPol == .setIsChanMinusPair) then a.toNat else b.toNat
      let subtrahend : Int := if s.adc.chan.getLsbD 0 = (s.cfg.adcDiffPol == .setIsChanMinusPair) then b.toNat else a.toNat
      let d := minuend - subtrahend
      ∃ e : Byte,
        (s.cfg.adcDiffEnc = .mod256 → (e.toNat : Int) = d % 256) ∧
        (∀ entries, s.cfg.adcDiffEnc = .table entries → entries[(d + 255).toNat]? = some e) ∧
        exec (.adcReadStart n) s =
          .next
            { called with
              draws := s.draws.tail.tail, asked := s.asked ++ [q0, q1], adc := { s.adc with res := e }, ans := granted })

/-- ADC_CMD (R88, R222): the command's fields are set, its byte acknowledged, and no conversion is made (R230). -/
def Obligations.AdcCommandFrame : Prop :=
  ∀ (s : State) (slot : Slot) (b : Byte), s.fault = none → s.deviceAt slot = some .adc → s.cfg.answers slot = true →
    let r := restartStop s
    exec (.adcCmd slot b) s =
      .next
        { r with
          eng := drained .exchanging slot .write
          wd := armedWatchdog s.cfg
          adc :=
            { r.adc with
              se := b.getLsbD 7 == s.cfg.adcSeValue, chan := b.extractLsb' 4 3, ref := b.extractLsb' 3 1, stage := b }
          log :=
            r.log ++
              [.call slot ⟨.write, .start⟩ 0, .ack .ack, .call slot ⟨.write, .boundary⟩ 1, .ack .ack] }

/-- ADC_READ (R89, R225, R226): one conversion, at the address byte; the first byte sent is its result, every further
byte is FILL; the configuration stays. -/
def Obligations.AdcReadFrame : Prop :=
  ∀ (s : State) (slot : Slot) (reqs : List Bool), s.fault = none → s.deviceAt slot = some .adc →
    s.cfg.answers slot = true →
    ∃ t rs, exec (.adcRead slot reqs) s = .next t ∧ t.log = (restartStop s).log ++ rs ∧
      txBytes rs = streamed [t.adc.res] true reqs ∧
      t.adc = { (restartStop s).adc with res := (adcConvert (restartStop s)).1 } ∧
      t.asked = (adcConvert (restartStop s)).2.asked ∧ t.eng.phase ≠ .idle ∧ t.eng.slot = slot ∧
      t.eng.dir = .read ∧ t.ee = (restartStop s).ee ∧ t.gpi = (restartStop s).gpi ∧
      t.sram = (restartStop s).sram ∧ t.wd = armedWatchdog s.cfg ∧ t.gpiCount = s.gpiCount ∧ t.reg = s.reg ∧
      t.fault = none

/-- The read-after-write law (R229): a command byte and then a read, with the defaults of the spec. The result is the
single sample, or the difference of the two samples, that bits 7, 6:4 and 3 of the command byte select; bits 2:0 do not
matter. -/
def Obligations.AdcReadFollowsTheLastCommand : Prop :=
  ∀ (s : State) (slot : Slot) (b : Byte), s.fault = none → s.eng.phase = .idle → s.deviceAt slot = some .adc →
    s.cfg.answers slot = true →
    s.cfg.adcSeValue = true → s.cfg.adcDiffPol = .setIsChanMinusPair → s.cfg.adcDiffEnc = .mod256 →
    let c := b.extractLsb' 4 3
    let ref := b.extractLsb' 3 1
    let q0 : Request := .adcSample s.cfg.adcMap[c.toNat] ref
    let q1 : Request := .adcSample s.cfg.adcMap[(c ^^^ 4#3).toNat] ref
    let x := s.answerTo q0
    let y := (s.noteRead q0).answerTo q1
    ∃ t rs, execAll [.adcCmd slot b, .evStop, .adcRead slot [false, true], .evStop] s = some t ∧ t.log = s.log ++ rs ∧
      txBytes rs = [if b.getLsbD 7 then x else if c.getLsbD 0 then x - y else y - x, 0xFF] ∧
      t.asked = s.asked ++ (if b.getLsbD 7 then [q0] else [q0, q1])

/-! ## GPI (spec/45_gpi.md) -/

/-- The GPI's write-side handlers (R242 to R245), each run alone with its answer in `ans` (the model's choice, log 10,
the Ack of Stop and Error among it): signalling is disabled at the Start; the mask byte replaces the mask and touches
neither the latch nor the pins; a Stop or an Error enables signalling again and samples the pins. -/
def Obligations.GpiWriteSideHandlers : Prop :=
  ∀ (s : State) (n : Count) (i : Instr),
    (∃ t rs, exec (.gpiWriteStart n) s = .next t ∧ t.gpi = { s.gpi with armed := false } ∧ t.gpi.irq = false ∧
      t.log = s.log ++ Record.call s.eng.slot ⟨.write, .start⟩ n :: rs ∧ rs = (if s.gpi.irq then [.irq false] else []) ∧
      t.ans = { grant := some { space := .gpiStage, base := 0, len := 1 }, cap := 1, ack := .ack } ∧
      t.eng = s.eng ∧ t.wd = s.wd ∧ t.ee = s.ee ∧ t.adc = s.adc ∧ t.sram = s.sram ∧ t.gpiCount = s.gpiCount ∧
      t.reg = s.reg ∧ t.fault = s.fault ∧ t.asked = s.asked) ∧
    (∃ t, exec (.gpiWriteBufferFull n) s = .next t ∧ t.gpi = { s.gpi with mask := s.gpi.stage } ∧
      t.ans = { grant := none, cap := 0, ack := .ack } ∧
      t.eng = s.eng ∧ t.wd = s.wd ∧ t.ee = s.ee ∧ t.adc = s.adc ∧ t.sram = s.sram ∧ t.gpiCount = s.gpiCount ∧
      t.reg = s.reg ∧ t.fault = s.fault ∧ t.asked = s.asked) ∧
    ((i = .gpiWriteStop n ∨ i = .gpiWriteError n) →
      ∃ t, exec i s = .next t ∧
        t.gpi =
          { s.gpi with
            armed := true, prev := s.gpi.cur, cur := s.answerTo .pinRead
            trans := s.gpi.trans ||| (s.answerTo .pinRead ^^^ s.gpi.cur) } ∧
        t.ans = { grant := none, cap := 0, ack := .ack } ∧ t.asked = s.asked ++ [.pinRead] ∧
        t.eng = s.eng ∧ t.wd = s.wd ∧ t.ee = s.ee ∧ t.adc = s.adc ∧ t.sram = s.sram ∧ t.gpiCount = s.gpiCount ∧
      t.reg = s.reg ∧ t.fault = s.fault)

/-- The GPI's read-side handlers (R246 to R249), each run alone with its answer in `ans` (the model's choice, log 10,
the Ack of Stop and Error among it): ReadStart disables signalling, samples, captures the current value and the latch,
and clears the latch; ReadBufferEmpty grants nothing; a Stop or an Error enables signalling again and samples the pins. -/
def Obligations.GpiReadSideHandlers : Prop :=
  ∀ (s : State) (n : Count) (i : Instr),
    let v := s.answerTo .pinRead
    (∃ t, exec (.gpiReadStart n) s = .next t ∧
      t.gpi =
        { s.gpi with
          armed := false, prev := s.gpi.cur, cur := v, trans := 0
          rbuf := #v[v, s.gpi.trans ||| (v ^^^ s.gpi.cur)] } ∧
      t.ans = { grant := some { space := .gpiRbuf, base := 0, len := 2 }, cap := 2, ack := .ack } ∧
      t.asked = s.asked ++ [.pinRead] ∧
      t.eng = s.eng ∧ t.wd = s.wd ∧ t.ee = s.ee ∧ t.adc = s.adc ∧ t.sram = s.sram ∧ t.gpiCount = s.gpiCount ∧
      t.reg = s.reg ∧ t.fault = s.fault) ∧
    exec (.gpiReadBufferEmpty n) s =
      .next
        { s with
          log := s.log ++ [.call s.eng.slot ⟨.read, .boundary⟩ n], ans := { grant := none, cap := 0, ack := .ack } } ∧
    ((i = .gpiReadStop n ∨ i = .gpiReadError n) →
      ∃ t, exec i s = .next t ∧
        t.gpi =
          { s.gpi with
            armed := true, prev := s.gpi.cur, cur := v, trans := s.gpi.trans ||| (v ^^^ s.gpi.cur) } ∧
        t.ans = { grant := none, cap := 0, ack := .ack } ∧ t.asked = s.asked ++ [.pinRead] ∧
        t.eng = s.eng ∧ t.wd = s.wd ∧ t.ee = s.ee ∧ t.adc = s.adc ∧ t.sram = s.sram ∧ t.gpiCount = s.gpiCount ∧
      t.reg = s.reg ∧ t.fault = s.fault)

/-- GPI_SET_MASK (R90, R242, R243): the mask is the byte, acknowledged; signalling stays disabled until the transaction
ends; the latch is not touched and the pins are not sampled. -/
def Obligations.GpiSetMaskFrame : Prop :=
  ∀ (s : State) (slot : Slot) (m : Byte), s.fault = none → s.deviceAt slot = some .gpi → s.cfg.answers slot = true →
    let r := restartStop s
    exec (.gpiSetMask slot m) s =
      .next
        { r with
          eng := drained .exchanging slot .write
          wd := armedWatchdog s.cfg
          gpi := { r.gpi with armed := false, stage := m, mask := m }
          log :=
            r.log ++ [.call slot ⟨.write, .start⟩ 0] ++ (if r.gpi.irq then [.irq false] else []) ++
              [.ack .ack, .call slot ⟨.write, .boundary⟩ 1, .ack .ack] }

/-- GPI_READ (R91, R246, R247): the first byte is the value sampled at the address byte, the second the latch with that
sample's delta, every further byte FILL; the latch is cleared and signalling disabled. -/
def Obligations.GpiReadFrame : Prop :=
  ∀ (s : State) (slot : Slot) (reqs : List Bool), s.fault = none → s.deviceAt slot = some .gpi →
    s.cfg.answers slot = true →
    ∃ t rs, exec (.gpiRead slot reqs) s = .next t ∧ t.log = (restartStop s).log ++ rs ∧
      let g := (restartStop s).gpi
      let v := (restartStop s).answerTo .pinRead
      txBytes rs = streamed [v, g.trans ||| (v ^^^ g.cur)] true reqs ∧
      t.gpi =
        { g with
          armed := false, prev := g.cur, cur := v, trans := 0, rbuf := #v[v, g.trans ||| (v ^^^ g.cur)] } ∧
      t.asked = (restartStop s).asked ++ [.pinRead] ∧ t.eng.phase ≠ .idle ∧ t.eng.slot = slot ∧
      t.eng.dir = .read ∧ t.ee = (restartStop s).ee ∧ t.adc = (restartStop s).adc ∧
      t.sram = (restartStop s).sram ∧ t.wd = armedWatchdog s.cfg ∧ t.gpiCount = s.gpiCount ∧ t.reg = s.reg ∧
      t.fault = none

/-- The latch is cleared only at a read's Start (R251): an operation in which no device is called with ReadStart keeps
every bit of the latch. -/
def Obligations.LatchIsClearedOnlyByARead : Prop :=
  ∀ (s t : State) (i : Instr), exec i s = .next t → ∃ rs, t.log = s.log ++ rs ∧
    ((∀ c ∈ callsOf rs, c.2.1 ≠ ⟨.read, .start⟩) → s.gpi.trans ||| t.gpi.trans = t.gpi.trans)

/-- The interrupt line is asserted exactly where signalling is enabled and an unmasked transition is latched, and the
pin stands at `P_GPI_IRQ_LEVEL` exactly then (R241, R289; that it stands at the other level otherwise is log 26). The
line is logged at every change of its level and only then (R241, R43), whatever the operation. -/
def Obligations.EveryChangeOfTheLineIsLogged : Prop :=
  (∀ s : State,
    (s.gpi.irq = true ↔ s.gpi.armed = true ∧ ∃ i, i < 8 ∧ s.gpi.trans.getLsbD i = true ∧ s.gpi.mask.getLsbD i = true) ∧
    s.irqPin = (if s.gpi.irq then s.cfg.gpiIrqLevel else !s.cfg.gpiIrqLevel)) ∧
  ∀ (s t : State) (i : Instr), exec i s = .next t →
    ∃ rs, t.log = s.log ++ rs ∧ irqTrace s.gpi.irq rs = some t.gpi.irq

/-- Signalling stays disabled until a transaction ends (R252, R316): an operation in which no device is called with a
Stop or an Error, a watchdog expiry among them, never sets `gpi.armed`. -/
def Obligations.SignallingNeedsAnEndedTransaction : Prop :=
  ∀ (s t : State) (i : Instr), exec i s = .next t → s.gpi.armed = false → ∃ rs, t.log = s.log ++ rs ∧
    ((∀ c ∈ callsOf rs, c.2.1.kind = .start ∨ c.2.1.kind = .boundary) → t.gpi.armed = false ∧ t.gpi.irq = false)

/-! ## SRAM (spec/46_sram.md) -/

/-- The SRAM's write-side handlers (R260 to R265), each run alone with its answer in `ans` (the model's choice, log 10,
the Ack of Stop and Error among it): the address phase; the cursor from the staged address, bits 7:1 of AddrHi ignored,
and a window to the top; the next window from 0; at a Stop or an Error the cursor advances by the bytes counted, in the
data phase only. No byte of the array changes. -/
def Obligations.SramWriteSideHandlers : Prop :=
  ∀ (s : State) (n : Count) (i : Instr) (ph : Phase),
    let called (ph : Phase) : State := { s with log := s.log ++ [.call s.eng.slot ph n] }
    let nothing : Answer := { grant := none, cap := 0, ack := .ack }
    let c : U9 := (s.sram.stage[0].extractLsb' 0 1 ++ s.sram.stage[1] : BitVec 9)
    exec (.sramWriteStart n) s =
      .next
        { called ⟨.write, .start⟩ with
          sram := { s.sram with wphase := .addrPhase }
          ans := { grant := some { space := .sramStage, base := 0, len := 2 }, cap := 2, ack := .ack } } ∧
    (s.sram.wphase = .addrPhase →
      exec (.sramWriteBufferFull n) s =
        .next
          { called ⟨.write, .boundary⟩ with
            sram := { s.sram with cursor := c, wphase := .dataPhase }
            ans :=
              { grant := some { space := .sram, base := c.toNat, len := 512 - c.setWidth 16 }
                cap := 512 - c.setWidth 16, ack := .ack } }) ∧
    (s.sram.wphase = .dataPhase →
      exec (.sramWriteBufferFull n) s =
        .next
          { called ⟨.write, .boundary⟩ with
            sram := { s.sram with cursor := s.sram.cursor + n.setWidth 9 }
            ans := { grant := some { space := .sram, base := 0, len := 512 }, cap := 512, ack := .ack } }) ∧
    ((i = .sramWriteStop n ∧ ph = ⟨.write, .stop⟩ ∨ i = .sramWriteError n ∧ ph = ⟨.write, .error⟩) →
      (s.sram.wphase = .addrPhase → exec i s = .next { called ph with ans := nothing }) ∧
      (s.sram.wphase = .dataPhase →
        exec i s =
          .next
            { called ph with
              sram := { s.sram with cursor := s.sram.cursor + n.setWidth 9 }, ans := nothing }))

/-- The SRAM's read-side handlers (R263, R266 to R269), each run alone with its answer in `ans` (the model's choice, log
10, the Ack of Stop and Error among it): a window of `min(512 - c, P_SRAM_PAGE)` bytes from the cursor; the cursor
advances modulo 512 by the bytes consumed. No byte of the array changes. -/
def Obligations.SramReadSideHandlers : Prop :=
  ∀ (s : State) (n : Count) (i : Instr) (ph : Phase), 1 ≤ s.cfg.sramPage →
    let called (ph : Phase) : State := { s with log := s.log ++ [.call s.eng.slot ph n] }
    let next : U9 := s.sram.cursor + n.setWidth 9
    let window (c : U9) : Answer :=
      { grant := some { space := .sram, base := c.toNat, len := BitVec.ofNat 16 (min (512 - c.toNat) s.cfg.sramPage) }
        cap := BitVec.ofNat 16 (min (512 - c.toNat) s.cfg.sramPage), ack := .ack }
    exec (.sramReadStart n) s = .next { called ⟨.read, .start⟩ with ans := window s.sram.cursor } ∧
    exec (.sramReadBufferEmpty n) s =
      .next { called ⟨.read, .boundary⟩ with sram := { s.sram with cursor := next }, ans := window next } ∧
    ((i = .sramReadStop n ∧ ph = ⟨.read, .stop⟩ ∨ i = .sramReadError n ∧ ph = ⟨.read, .error⟩) →
      exec i s =
        .next
          { called ph with
            sram := { s.sram with cursor := next }, ans := { grant := none, cap := 0, ack := .ack } })

/-- SRAM_SET_CURSOR (R92, R261): the cursor is `{AddrHi[0], AddrLo}`; with P the engine is Idle, with Sr the window to
the top of the array is open. No byte of the array changes. -/
def Obligations.SramSetCursorFrame : Prop :=
  ∀ (s : State) (slot : Slot) (hi lo : Byte), s.fault = none → s.deviceAt slot = some .sram →
    s.cfg.answers slot = true →
    let r := restartStop s
    let c : U9 := (hi.extractLsb' 0 1 ++ lo : BitVec 9)
    let done :=
      { r with
        eng :=
          { phase := .exchanging, slot := slot, dir := .write, cnt := 0, rem := 512 - c.setWidth 16
            grant := some { space := .sram, base := c.toNat, len := 512 - c.setWidth 16 } }
        wd := armedWatchdog s.cfg
        sram := { r.sram with cursor := c, wphase := .dataPhase, stage := #v[hi, lo] }
        log :=
          r.log ++
            [.call slot ⟨.write, .start⟩ 0, .ack .ack, .ack .ack, .call slot ⟨.write, .boundary⟩ 2, .ack .ack] }
    exec (.sramSetCursor slot hi lo .restart) s = .next done ∧
    exec (.sramSetCursor slot hi lo .stop) s =
      .next
        { done with
          eng := drained .idle slot .write, wd := offWatchdog, log := done.log ++ [.call slot ⟨.write, .stop⟩ 0] }

/-- The wrap law of a write (R270, R92): any number of data bytes from address A, then a stop. Every byte is
acknowledged; data byte i is stored at (A + i) mod 512, a later byte over an earlier one; every address that no data
byte goes to reads as before; the cursor afterwards is (A + number of bytes) mod 512. -/
def Obligations.SramWriteWrapsModulo512 : Prop :=
  ∀ (s : State) (slot : Slot) (hi lo : Byte) (ds : List Byte), s.fault = none → s.deviceAt slot = some .sram →
    s.cfg.answers slot = true → Memory.wf s.sram.mem = true →
    let a := (256 * hi.toNat + lo.toNat) % 512
    ∃ t u rs, exec (.sramWrite slot hi lo ds) s = .next t ∧ exec .evStop t = .next u ∧
      t.log = (restartStop s).log ++ rs ∧ acksOf rs = List.replicate (ds.length + 3) .ack ∧
      u.sram.cursor.toNat = (a + ds.length) % 512 ∧
      (∀ i : Nat, i < ds.length → ds.length ≤ i + 512 → ds[i]? = some (Memory.read ((a + i) % 512) u.sram.mem)) ∧
      (∀ j : Nat, j < 512 → (∀ i : Nat, i < ds.length → (a + i) % 512 ≠ j) →
        Memory.read j u.sram.mem = Memory.read j s.sram.mem) ∧
      u.ee = (restartStop s).ee ∧ u.adc = (restartStop s).adc ∧ u.gpi = (restartStop s).gpi ∧
      u.gpiCount = s.gpiCount ∧ u.reg = s.reg ∧
      u.fault = none

/-- The wrap law of a read (R270, R93): any number of requests from cursor C, then a stop. The bytes sent are those at
(C + i) mod 512, window after window, and FILL for a request after the master's NACK; the cursor afterwards is C plus
the bytes consumed, modulo 512; no byte of the array changes. -/
def Obligations.SramReadWrapsModulo512 : Prop :=
  ∀ (s : State) (slot : Slot) (reqs : List Bool), s.fault = none → s.deviceAt slot = some .sram →
    s.cfg.answers slot = true → 1 ≤ s.cfg.sramPage →
    let r := restartStop s
    let c := r.sram.cursor.toNat
    ∃ t u rs, exec (.sramRead slot reqs) s = .next t ∧ exec .evStop t = .next u ∧ t.log = r.log ++ rs ∧
      txBytes rs = streamedFrom (fun i => Memory.read ((c + i) % 512) r.sram.mem) 0 true reqs ∧
      u.sram.cursor.toNat = (c + consumed true reqs) % 512 ∧ u.sram.mem = s.sram.mem ∧ u.ee = r.ee ∧ u.adc = r.adc ∧
      u.gpi = r.gpi ∧ u.asked = r.asked ∧ u.gpiCount = s.gpiCount ∧ u.reg = s.reg ∧
      u.fault = none

/-! ## Traces, streams and error causes -/

/-- A frame row does what its tokens do, and a recorded bus trace cut into transactions (R97) does, item by item, what
its tokens do. An address byte is due after `S` and `Sr` alone (R95): an answered one, the data slots after it and the
stop are one event each (R11), and bytes that no start condition came before are data events (R135, vector V01). That a
frame is run as its events in one step is the model's reading (log 11), and so is the byte that a request carries, a
free value (log 15). -/
def Obligations.FramesAndTracesAreTheirEvents : Prop :=
  (∀ (s : State) (ts : List Token) (i : Instr), decode s.ctx (.frame ts) = .ok i →
    exec i s = .next (busEvents (tokenEvents s.cfg .address ts) s)) ∧
  (∀ (s : State) (ts : List Token), s.fault = none →
    (cutTrace s.ctx ts).foldl (fun u it => runItem it u) s = busEvents (tokenEvents s.cfg .data ts) s) ∧
  (∀ (p : Params) (h : Heard) (t : Token) (ts : List Token), t = .start ∨ t = .restart →
    tokenEvents p h (t :: ts) = tokenEvents p .address ts) ∧
  (∀ (p : Params) (a : Byte) (bs : List Byte) (reqs : List Bool) (ts : List Token),
    p.selects (windowOf a) (slotOf a) = true →
      tokenEvents p .address (.byte a :: bs.map .byte ++ .stop :: ts) =
        .addr a :: (bs.map fun b => .data b false) ++ .stop :: tokenEvents p .data ts ∧
      tokenEvents p .address (.byte a :: reqs.map reqToken ++ .stop :: ts) =
        .addr a :: (reqs.map fun nacked => .data Config.requestRx nacked) ++ .stop :: tokenEvents p .data ts) ∧
  ∀ (p : Params) (bs : List Byte) (ts : List Token),
    tokenEvents p .data (bs.map .byte ++ .stop :: ts) =
      (bs.map fun b => .data b false) ++ .stop :: tokenEvents p .data ts

/-- EE_READ window after window (R86, R191), then a stop (R192): any number of requests. A window is filled at the
address byte and whenever the one before is used up and another byte is asked for, each from where the last ended; the
bytes sent are those of the windows in order, and FILL for a request after the master's NACK; the cursor moves by a
window at each new one, and to the end of the bytes consumed at the stop. -/
def Obligations.EeReadFrameContinuesWindowAfterWindow : Prop :=
  ∀ (s : State) (slot : Slot) (reqs : List Bool), s.fault = none → s.deviceAt slot = some .eeprom →
    s.cfg.answers slot = true → s.cfg.eeWindow ≠ 0 →
    let r := restartStop s
    let size := s.cfg.eeWindow
    let windows := windowsUsed size.toNat (consumed true reqs)
    let stream := eeBytes (windows * size.toNat) r.ee.cursor r
    ∃ t u rs, exec (.eeRead slot reqs) s = .next t ∧ exec .evStop t = .next u ∧ t.log = r.log ++ rs ∧
      txBytes rs = streamed stream.1 true reqs ∧ acksOf rs = [.ack] ∧ t.asked = stream.2.asked ∧
      callsOf rs =
        (slot, ⟨.read, .start⟩, 0) :: List.replicate (windows - 1) (slot, ⟨.read, .boundary⟩, size) ∧
      t.ee.cursor = r.ee.cursor + BitVec.ofNat 16 ((windows - 1) * size.toNat) ∧
      u.ee.cursor = r.ee.cursor + BitVec.ofNat 16 (consumed true reqs) ∧ u.ee.arm = r.ee.arm ∧
      u.ee.stage = r.ee.stage ∧ u.asked = t.asked ∧ u.adc = r.adc ∧ u.gpi = r.gpi ∧ u.sram = r.sram ∧
      u.gpiCount = s.gpiCount ∧ u.reg = s.reg ∧ u.fault = none

/-- The error causes of spec/60_exceptions.md R280 to R284 and what they surface as; the machine goes on after each. An
address of an Empty slot is `E_UNREG`: Nack, and the transaction is open with no capacity (R284). An EvError in an open
transaction is `E_PROTOCOL`: the device's Error phase, and Idle (R281). The byte that completes a store write the policy
does not accept is `E_POLICY`: Nack, nothing to the store, the arm cleared, the transaction open (R283); any other byte
that completes an F-EE-W is acknowledged. A tick is `E_TIMEOUT` exactly where it restarts the peripheral, and no device
is called (R282). That a cause is computed from the state and the event is the model's reading (log 26). -/
def Obligations.ErrorCausesSurfaceAsStated : Prop :=
  (∀ (s : State) (a : Byte),
    (eventError (.addr a) s = some .unregistered ↔
      s.cfg.selects (windowOf a) (slotOf a) = true ∧ s.deviceAt (slotOf a) = none) ∧
    (eventError (.addr a) s = some .unregistered → ∃ t rs, exec (decodeEvent s.ctx (.addr a)) s = .next t ∧
      t.log = s.log ++ rs ∧ rs.getLast? = some (.ack .nack) ∧ t.eng = drained .addressed (slotOf a) (dirOf a))) ∧
  (∀ s : State,
    (eventError .error s = some .protocol ↔ s.eng.phase ≠ .idle) ∧
    ∃ t rs, exec .evError s = .next t ∧ t.log = s.log ++ rs ∧ t.eng.phase = .idle ∧
      callsOf rs =
        (if eventError .error s = some .protocol ∧ s.deviceAt s.eng.slot ≠ none then
          [(s.eng.slot, ⟨s.eng.dir, .error⟩, s.eng.cnt)]
        else [])) ∧
  (∀ (s : State) (rx : Byte) (mNack : Bool), grantInv s = true → s.eng.phase ≠ .idle → s.eng.dir = .write →
    s.eng.grant = some { space := .eeStage, base := 0, len := 3 } → s.eng.rem = 1 →
    (eventError (.data rx mNack) s = some .policy ↔
      s.cfg.isSpecial s.ee.stagedAddr = false ∧ eeAccepts s.ee.stagedAddr rx s = false) ∧
    ∃ t rs, exec (.evDataRx rx mNack) s = .next t ∧ t.log = s.log ++ rs ∧
      acksOf rs = [if eventError (.data rx mNack) s = some .policy then .nack else .ack] ∧
      (eventError (.data rx mNack) s = some .policy →
        persistWrites rs = [] ∧ t.ee.arm = s.cfg.armClear ∧ t.ee.cursor = s.ee.stagedAddr ∧
          t.eng = drained .exchanging s.eng.slot .write)) ∧
  ∀ s : State, s.fault = none →
    ∃ t rs, exec (.evTick []) s = .next t ∧ t.log = s.log ++ rs ∧ callsOf rs = [] ∧
      restarts rs = (if tickError s = some .timeout then 1 else 0)
end

