-- ==== Sys2Proof/Laws/State.lean ====
section
/-! SUPPORT. One lemma per field per named update of the state, true by `rfl`, so that no proof unfolds an update. -/

namespace Sys2Proof.Machine

/-! ### setEng -/

@[simp] theorem State.setEng_eng (s : State) (x : Engine) : (s.setEng x).eng = x := rfl
@[simp] theorem State.setEng_wd (s : State) (x : Engine) : (s.setEng x).wd = s.wd := rfl
@[simp] theorem State.setEng_gpiCount (s : State) (x : Engine) : (s.setEng x).gpiCount = s.gpiCount := rfl
@[simp] theorem State.setEng_reg (s : State) (x : Engine) : (s.setEng x).reg = s.reg := rfl
@[simp] theorem State.setEng_ee (s : State) (x : Engine) : (s.setEng x).ee = s.ee := rfl
@[simp] theorem State.setEng_adc (s : State) (x : Engine) : (s.setEng x).adc = s.adc := rfl
@[simp] theorem State.setEng_gpi (s : State) (x : Engine) : (s.setEng x).gpi = s.gpi := rfl
@[simp] theorem State.setEng_sram (s : State) (x : Engine) : (s.setEng x).sram = s.sram := rfl
@[simp] theorem State.setEng_log (s : State) (x : Engine) : (s.setEng x).log = s.log := rfl
@[simp] theorem State.setEng_fault (s : State) (x : Engine) : (s.setEng x).fault = s.fault := rfl
@[simp] theorem State.setEng_cfg (s : State) (x : Engine) : (s.setEng x).cfg = s.cfg := rfl
@[simp] theorem State.setEng_inbox (s : State) (x : Engine) : (s.setEng x).inbox = s.inbox := rfl
@[simp] theorem State.setEng_draws (s : State) (x : Engine) : (s.setEng x).draws = s.draws := rfl
@[simp] theorem State.setEng_asked (s : State) (x : Engine) : (s.setEng x).asked = s.asked := rfl
@[simp] theorem State.setEng_ans (s : State) (x : Engine) : (s.setEng x).ans = s.ans := rfl

/-! ### setWd -/

@[simp] theorem State.setWd_eng (s : State) (x : Watchdog) : (s.setWd x).eng = s.eng := rfl
@[simp] theorem State.setWd_wd (s : State) (x : Watchdog) : (s.setWd x).wd = x := rfl
@[simp] theorem State.setWd_gpiCount (s : State) (x : Watchdog) : (s.setWd x).gpiCount = s.gpiCount := rfl
@[simp] theorem State.setWd_reg (s : State) (x : Watchdog) : (s.setWd x).reg = s.reg := rfl
@[simp] theorem State.setWd_ee (s : State) (x : Watchdog) : (s.setWd x).ee = s.ee := rfl
@[simp] theorem State.setWd_adc (s : State) (x : Watchdog) : (s.setWd x).adc = s.adc := rfl
@[simp] theorem State.setWd_gpi (s : State) (x : Watchdog) : (s.setWd x).gpi = s.gpi := rfl
@[simp] theorem State.setWd_sram (s : State) (x : Watchdog) : (s.setWd x).sram = s.sram := rfl
@[simp] theorem State.setWd_log (s : State) (x : Watchdog) : (s.setWd x).log = s.log := rfl
@[simp] theorem State.setWd_fault (s : State) (x : Watchdog) : (s.setWd x).fault = s.fault := rfl
@[simp] theorem State.setWd_cfg (s : State) (x : Watchdog) : (s.setWd x).cfg = s.cfg := rfl
@[simp] theorem State.setWd_inbox (s : State) (x : Watchdog) : (s.setWd x).inbox = s.inbox := rfl
@[simp] theorem State.setWd_draws (s : State) (x : Watchdog) : (s.setWd x).draws = s.draws := rfl
@[simp] theorem State.setWd_asked (s : State) (x : Watchdog) : (s.setWd x).asked = s.asked := rfl
@[simp] theorem State.setWd_ans (s : State) (x : Watchdog) : (s.setWd x).ans = s.ans := rfl

/-! ### setGpiCount -/

@[simp] theorem State.setGpiCount_eng (s : State) (x : Nat) : (s.setGpiCount x).eng = s.eng := rfl
@[simp] theorem State.setGpiCount_wd (s : State) (x : Nat) : (s.setGpiCount x).wd = s.wd := rfl
@[simp] theorem State.setGpiCount_gpiCount (s : State) (x : Nat) : (s.setGpiCount x).gpiCount = x := rfl
@[simp] theorem State.setGpiCount_reg (s : State) (x : Nat) : (s.setGpiCount x).reg = s.reg := rfl
@[simp] theorem State.setGpiCount_ee (s : State) (x : Nat) : (s.setGpiCount x).ee = s.ee := rfl
@[simp] theorem State.setGpiCount_adc (s : State) (x : Nat) : (s.setGpiCount x).adc = s.adc := rfl
@[simp] theorem State.setGpiCount_gpi (s : State) (x : Nat) : (s.setGpiCount x).gpi = s.gpi := rfl
@[simp] theorem State.setGpiCount_sram (s : State) (x : Nat) : (s.setGpiCount x).sram = s.sram := rfl
@[simp] theorem State.setGpiCount_log (s : State) (x : Nat) : (s.setGpiCount x).log = s.log := rfl
@[simp] theorem State.setGpiCount_fault (s : State) (x : Nat) : (s.setGpiCount x).fault = s.fault := rfl
@[simp] theorem State.setGpiCount_cfg (s : State) (x : Nat) : (s.setGpiCount x).cfg = s.cfg := rfl
@[simp] theorem State.setGpiCount_inbox (s : State) (x : Nat) : (s.setGpiCount x).inbox = s.inbox := rfl
@[simp] theorem State.setGpiCount_draws (s : State) (x : Nat) : (s.setGpiCount x).draws = s.draws := rfl
@[simp] theorem State.setGpiCount_asked (s : State) (x : Nat) : (s.setGpiCount x).asked = s.asked := rfl
@[simp] theorem State.setGpiCount_ans (s : State) (x : Nat) : (s.setGpiCount x).ans = s.ans := rfl

/-! ### setEe -/

@[simp] theorem State.setEe_eng (s : State) (x : Eeprom) : (s.setEe x).eng = s.eng := rfl
@[simp] theorem State.setEe_wd (s : State) (x : Eeprom) : (s.setEe x).wd = s.wd := rfl
@[simp] theorem State.setEe_gpiCount (s : State) (x : Eeprom) : (s.setEe x).gpiCount = s.gpiCount := rfl
@[simp] theorem State.setEe_reg (s : State) (x : Eeprom) : (s.setEe x).reg = s.reg := rfl
@[simp] theorem State.setEe_ee (s : State) (x : Eeprom) : (s.setEe x).ee = x := rfl
@[simp] theorem State.setEe_adc (s : State) (x : Eeprom) : (s.setEe x).adc = s.adc := rfl
@[simp] theorem State.setEe_gpi (s : State) (x : Eeprom) : (s.setEe x).gpi = s.gpi := rfl
@[simp] theorem State.setEe_sram (s : State) (x : Eeprom) : (s.setEe x).sram = s.sram := rfl
@[simp] theorem State.setEe_log (s : State) (x : Eeprom) : (s.setEe x).log = s.log := rfl
@[simp] theorem State.setEe_fault (s : State) (x : Eeprom) : (s.setEe x).fault = s.fault := rfl
@[simp] theorem State.setEe_cfg (s : State) (x : Eeprom) : (s.setEe x).cfg = s.cfg := rfl
@[simp] theorem State.setEe_inbox (s : State) (x : Eeprom) : (s.setEe x).inbox = s.inbox := rfl
@[simp] theorem State.setEe_draws (s : State) (x : Eeprom) : (s.setEe x).draws = s.draws := rfl
@[simp] theorem State.setEe_asked (s : State) (x : Eeprom) : (s.setEe x).asked = s.asked := rfl
@[simp] theorem State.setEe_ans (s : State) (x : Eeprom) : (s.setEe x).ans = s.ans := rfl

/-! ### setAdc -/

@[simp] theorem State.setAdc_eng (s : State) (x : Adc) : (s.setAdc x).eng = s.eng := rfl
@[simp] theorem State.setAdc_wd (s : State) (x : Adc) : (s.setAdc x).wd = s.wd := rfl
@[simp] theorem State.setAdc_gpiCount (s : State) (x : Adc) : (s.setAdc x).gpiCount = s.gpiCount := rfl
@[simp] theorem State.setAdc_reg (s : State) (x : Adc) : (s.setAdc x).reg = s.reg := rfl
@[simp] theorem State.setAdc_ee (s : State) (x : Adc) : (s.setAdc x).ee = s.ee := rfl
@[simp] theorem State.setAdc_adc (s : State) (x : Adc) : (s.setAdc x).adc = x := rfl
@[simp] theorem State.setAdc_gpi (s : State) (x : Adc) : (s.setAdc x).gpi = s.gpi := rfl
@[simp] theorem State.setAdc_sram (s : State) (x : Adc) : (s.setAdc x).sram = s.sram := rfl
@[simp] theorem State.setAdc_log (s : State) (x : Adc) : (s.setAdc x).log = s.log := rfl
@[simp] theorem State.setAdc_fault (s : State) (x : Adc) : (s.setAdc x).fault = s.fault := rfl
@[simp] theorem State.setAdc_cfg (s : State) (x : Adc) : (s.setAdc x).cfg = s.cfg := rfl
@[simp] theorem State.setAdc_inbox (s : State) (x : Adc) : (s.setAdc x).inbox = s.inbox := rfl
@[simp] theorem State.setAdc_draws (s : State) (x : Adc) : (s.setAdc x).draws = s.draws := rfl
@[simp] theorem State.setAdc_asked (s : State) (x : Adc) : (s.setAdc x).asked = s.asked := rfl
@[simp] theorem State.setAdc_ans (s : State) (x : Adc) : (s.setAdc x).ans = s.ans := rfl

/-! ### setGpi -/

@[simp] theorem State.setGpi_eng (s : State) (x : Gpi) : (s.setGpi x).eng = s.eng := rfl
@[simp] theorem State.setGpi_wd (s : State) (x : Gpi) : (s.setGpi x).wd = s.wd := rfl
@[simp] theorem State.setGpi_gpiCount (s : State) (x : Gpi) : (s.setGpi x).gpiCount = s.gpiCount := rfl
@[simp] theorem State.setGpi_reg (s : State) (x : Gpi) : (s.setGpi x).reg = s.reg := rfl
@[simp] theorem State.setGpi_ee (s : State) (x : Gpi) : (s.setGpi x).ee = s.ee := rfl
@[simp] theorem State.setGpi_adc (s : State) (x : Gpi) : (s.setGpi x).adc = s.adc := rfl
@[simp] theorem State.setGpi_gpi (s : State) (x : Gpi) : (s.setGpi x).gpi = x := rfl
@[simp] theorem State.setGpi_sram (s : State) (x : Gpi) : (s.setGpi x).sram = s.sram := rfl
@[simp] theorem State.setGpi_log (s : State) (x : Gpi) : (s.setGpi x).log = s.log := rfl
@[simp] theorem State.setGpi_fault (s : State) (x : Gpi) : (s.setGpi x).fault = s.fault := rfl
@[simp] theorem State.setGpi_cfg (s : State) (x : Gpi) : (s.setGpi x).cfg = s.cfg := rfl
@[simp] theorem State.setGpi_inbox (s : State) (x : Gpi) : (s.setGpi x).inbox = s.inbox := rfl
@[simp] theorem State.setGpi_draws (s : State) (x : Gpi) : (s.setGpi x).draws = s.draws := rfl
@[simp] theorem State.setGpi_asked (s : State) (x : Gpi) : (s.setGpi x).asked = s.asked := rfl
@[simp] theorem State.setGpi_ans (s : State) (x : Gpi) : (s.setGpi x).ans = s.ans := rfl

/-! ### setSram -/

@[simp] theorem State.setSram_eng (s : State) (x : Sram) : (s.setSram x).eng = s.eng := rfl
@[simp] theorem State.setSram_wd (s : State) (x : Sram) : (s.setSram x).wd = s.wd := rfl
@[simp] theorem State.setSram_gpiCount (s : State) (x : Sram) : (s.setSram x).gpiCount = s.gpiCount := rfl
@[simp] theorem State.setSram_reg (s : State) (x : Sram) : (s.setSram x).reg = s.reg := rfl
@[simp] theorem State.setSram_ee (s : State) (x : Sram) : (s.setSram x).ee = s.ee := rfl
@[simp] theorem State.setSram_adc (s : State) (x : Sram) : (s.setSram x).adc = s.adc := rfl
@[simp] theorem State.setSram_gpi (s : State) (x : Sram) : (s.setSram x).gpi = s.gpi := rfl
@[simp] theorem State.setSram_sram (s : State) (x : Sram) : (s.setSram x).sram = x := rfl
@[simp] theorem State.setSram_log (s : State) (x : Sram) : (s.setSram x).log = s.log := rfl
@[simp] theorem State.setSram_fault (s : State) (x : Sram) : (s.setSram x).fault = s.fault := rfl
@[simp] theorem State.setSram_cfg (s : State) (x : Sram) : (s.setSram x).cfg = s.cfg := rfl
@[simp] theorem State.setSram_inbox (s : State) (x : Sram) : (s.setSram x).inbox = s.inbox := rfl
@[simp] theorem State.setSram_draws (s : State) (x : Sram) : (s.setSram x).draws = s.draws := rfl
@[simp] theorem State.setSram_asked (s : State) (x : Sram) : (s.setSram x).asked = s.asked := rfl
@[simp] theorem State.setSram_ans (s : State) (x : Sram) : (s.setSram x).ans = s.ans := rfl

/-! ### emit -/

@[simp] theorem State.emit_eng (s : State) (x : Record) : (s.emit x).eng = s.eng := rfl
@[simp] theorem State.emit_wd (s : State) (x : Record) : (s.emit x).wd = s.wd := rfl
@[simp] theorem State.emit_gpiCount (s : State) (x : Record) : (s.emit x).gpiCount = s.gpiCount := rfl
@[simp] theorem State.emit_reg (s : State) (x : Record) : (s.emit x).reg = s.reg := rfl
@[simp] theorem State.emit_ee (s : State) (x : Record) : (s.emit x).ee = s.ee := rfl
@[simp] theorem State.emit_adc (s : State) (x : Record) : (s.emit x).adc = s.adc := rfl
@[simp] theorem State.emit_gpi (s : State) (x : Record) : (s.emit x).gpi = s.gpi := rfl
@[simp] theorem State.emit_sram (s : State) (x : Record) : (s.emit x).sram = s.sram := rfl
@[simp] theorem State.emit_log (s : State) (x : Record) : (s.emit x).log = s.log ++ [x] := rfl
@[simp] theorem State.emit_fault (s : State) (x : Record) : (s.emit x).fault = s.fault := rfl
@[simp] theorem State.emit_cfg (s : State) (x : Record) : (s.emit x).cfg = s.cfg := rfl
@[simp] theorem State.emit_inbox (s : State) (x : Record) : (s.emit x).inbox = s.inbox := rfl
@[simp] theorem State.emit_draws (s : State) (x : Record) : (s.emit x).draws = s.draws := rfl
@[simp] theorem State.emit_asked (s : State) (x : Record) : (s.emit x).asked = s.asked := rfl
@[simp] theorem State.emit_ans (s : State) (x : Record) : (s.emit x).ans = s.ans := rfl

/-! ### setFault -/

@[simp] theorem State.setFault_eng (s : State) (x : Option Fault) : (s.setFault x).eng = s.eng := rfl
@[simp] theorem State.setFault_wd (s : State) (x : Option Fault) : (s.setFault x).wd = s.wd := rfl
@[simp] theorem State.setFault_gpiCount (s : State) (x : Option Fault) : (s.setFault x).gpiCount = s.gpiCount := rfl
@[simp] theorem State.setFault_reg (s : State) (x : Option Fault) : (s.setFault x).reg = s.reg := rfl
@[simp] theorem State.setFault_ee (s : State) (x : Option Fault) : (s.setFault x).ee = s.ee := rfl
@[simp] theorem State.setFault_adc (s : State) (x : Option Fault) : (s.setFault x).adc = s.adc := rfl
@[simp] theorem State.setFault_gpi (s : State) (x : Option Fault) : (s.setFault x).gpi = s.gpi := rfl
@[simp] theorem State.setFault_sram (s : State) (x : Option Fault) : (s.setFault x).sram = s.sram := rfl
@[simp] theorem State.setFault_log (s : State) (x : Option Fault) : (s.setFault x).log = s.log := rfl
@[simp] theorem State.setFault_fault (s : State) (x : Option Fault) : (s.setFault x).fault = x := rfl
@[simp] theorem State.setFault_cfg (s : State) (x : Option Fault) : (s.setFault x).cfg = s.cfg := rfl
@[simp] theorem State.setFault_inbox (s : State) (x : Option Fault) : (s.setFault x).inbox = s.inbox := rfl
@[simp] theorem State.setFault_draws (s : State) (x : Option Fault) : (s.setFault x).draws = s.draws := rfl
@[simp] theorem State.setFault_asked (s : State) (x : Option Fault) : (s.setFault x).asked = s.asked := rfl
@[simp] theorem State.setFault_ans (s : State) (x : Option Fault) : (s.setFault x).ans = s.ans := rfl

/-! ### setInbox -/

@[simp] theorem State.setInbox_eng (s : State) (x : List PortItem) : (s.setInbox x).eng = s.eng := rfl
@[simp] theorem State.setInbox_wd (s : State) (x : List PortItem) : (s.setInbox x).wd = s.wd := rfl
@[simp] theorem State.setInbox_gpiCount (s : State) (x : List PortItem) : (s.setInbox x).gpiCount = s.gpiCount := rfl
@[simp] theorem State.setInbox_reg (s : State) (x : List PortItem) : (s.setInbox x).reg = s.reg := rfl
@[simp] theorem State.setInbox_ee (s : State) (x : List PortItem) : (s.setInbox x).ee = s.ee := rfl
@[simp] theorem State.setInbox_adc (s : State) (x : List PortItem) : (s.setInbox x).adc = s.adc := rfl
@[simp] theorem State.setInbox_gpi (s : State) (x : List PortItem) : (s.setInbox x).gpi = s.gpi := rfl
@[simp] theorem State.setInbox_sram (s : State) (x : List PortItem) : (s.setInbox x).sram = s.sram := rfl
@[simp] theorem State.setInbox_log (s : State) (x : List PortItem) : (s.setInbox x).log = s.log := rfl
@[simp] theorem State.setInbox_fault (s : State) (x : List PortItem) : (s.setInbox x).fault = s.fault := rfl
@[simp] theorem State.setInbox_cfg (s : State) (x : List PortItem) : (s.setInbox x).cfg = s.cfg := rfl
@[simp] theorem State.setInbox_inbox (s : State) (x : List PortItem) : (s.setInbox x).inbox = x := rfl
@[simp] theorem State.setInbox_draws (s : State) (x : List PortItem) : (s.setInbox x).draws = s.draws := rfl
@[simp] theorem State.setInbox_asked (s : State) (x : List PortItem) : (s.setInbox x).asked = s.asked := rfl
@[simp] theorem State.setInbox_ans (s : State) (x : List PortItem) : (s.setInbox x).ans = s.ans := rfl

/-! ### noteRead -/

@[simp] theorem State.noteRead_eng (s : State) (x : Request) : (s.noteRead x).eng = s.eng := rfl
@[simp] theorem State.noteRead_wd (s : State) (x : Request) : (s.noteRead x).wd = s.wd := rfl
@[simp] theorem State.noteRead_gpiCount (s : State) (x : Request) : (s.noteRead x).gpiCount = s.gpiCount := rfl
@[simp] theorem State.noteRead_reg (s : State) (x : Request) : (s.noteRead x).reg = s.reg := rfl
@[simp] theorem State.noteRead_ee (s : State) (x : Request) : (s.noteRead x).ee = s.ee := rfl
@[simp] theorem State.noteRead_adc (s : State) (x : Request) : (s.noteRead x).adc = s.adc := rfl
@[simp] theorem State.noteRead_gpi (s : State) (x : Request) : (s.noteRead x).gpi = s.gpi := rfl
@[simp] theorem State.noteRead_sram (s : State) (x : Request) : (s.noteRead x).sram = s.sram := rfl
@[simp] theorem State.noteRead_log (s : State) (x : Request) : (s.noteRead x).log = s.log := rfl
@[simp] theorem State.noteRead_fault (s : State) (x : Request) : (s.noteRead x).fault = s.fault := rfl
@[simp] theorem State.noteRead_cfg (s : State) (x : Request) : (s.noteRead x).cfg = s.cfg := rfl
@[simp] theorem State.noteRead_inbox (s : State) (x : Request) : (s.noteRead x).inbox = s.inbox := rfl
@[simp] theorem State.noteRead_draws (s : State) (x : Request) : (s.noteRead x).draws = s.draws.tail := rfl
@[simp] theorem State.noteRead_asked (s : State) (x : Request) : (s.noteRead x).asked = s.asked ++ [x] := rfl
@[simp] theorem State.noteRead_ans (s : State) (x : Request) : (s.noteRead x).ans = s.ans := rfl

/-! ### setAns -/

@[simp] theorem State.setAns_eng (s : State) (x : Answer) : (s.setAns x).eng = s.eng := rfl
@[simp] theorem State.setAns_wd (s : State) (x : Answer) : (s.setAns x).wd = s.wd := rfl
@[simp] theorem State.setAns_gpiCount (s : State) (x : Answer) : (s.setAns x).gpiCount = s.gpiCount := rfl
@[simp] theorem State.setAns_reg (s : State) (x : Answer) : (s.setAns x).reg = s.reg := rfl
@[simp] theorem State.setAns_ee (s : State) (x : Answer) : (s.setAns x).ee = s.ee := rfl
@[simp] theorem State.setAns_adc (s : State) (x : Answer) : (s.setAns x).adc = s.adc := rfl
@[simp] theorem State.setAns_gpi (s : State) (x : Answer) : (s.setAns x).gpi = s.gpi := rfl
@[simp] theorem State.setAns_sram (s : State) (x : Answer) : (s.setAns x).sram = s.sram := rfl
@[simp] theorem State.setAns_log (s : State) (x : Answer) : (s.setAns x).log = s.log := rfl
@[simp] theorem State.setAns_fault (s : State) (x : Answer) : (s.setAns x).fault = s.fault := rfl
@[simp] theorem State.setAns_cfg (s : State) (x : Answer) : (s.setAns x).cfg = s.cfg := rfl
@[simp] theorem State.setAns_inbox (s : State) (x : Answer) : (s.setAns x).inbox = s.inbox := rfl
@[simp] theorem State.setAns_draws (s : State) (x : Answer) : (s.setAns x).draws = s.draws := rfl
@[simp] theorem State.setAns_asked (s : State) (x : Answer) : (s.setAns x).asked = s.asked := rfl
@[simp] theorem State.setAns_ans (s : State) (x : Answer) : (s.setAns x).ans = x := rfl

/-! ### rearm -/

@[simp] theorem State.rearm_eng (s : State) : s.rearm.eng = s.eng := rfl
@[simp] theorem State.rearm_wd (s : State) : s.rearm.wd = { enabled := true, count := s.cfg.timeout } := rfl
@[simp] theorem State.rearm_gpiCount (s : State) : s.rearm.gpiCount = s.gpiCount := rfl
@[simp] theorem State.rearm_reg (s : State) : s.rearm.reg = s.reg := rfl
@[simp] theorem State.rearm_ee (s : State) : s.rearm.ee = s.ee := rfl
@[simp] theorem State.rearm_adc (s : State) : s.rearm.adc = s.adc := rfl
@[simp] theorem State.rearm_gpi (s : State) : s.rearm.gpi = s.gpi := rfl
@[simp] theorem State.rearm_sram (s : State) : s.rearm.sram = s.sram := rfl
@[simp] theorem State.rearm_log (s : State) : s.rearm.log = s.log := rfl
@[simp] theorem State.rearm_fault (s : State) : s.rearm.fault = s.fault := rfl
@[simp] theorem State.rearm_cfg (s : State) : s.rearm.cfg = s.cfg := rfl
@[simp] theorem State.rearm_inbox (s : State) : s.rearm.inbox = s.inbox := rfl
@[simp] theorem State.rearm_draws (s : State) : s.rearm.draws = s.draws := rfl
@[simp] theorem State.rearm_asked (s : State) : s.rearm.asked = s.asked := rfl
@[simp] theorem State.rearm_ans (s : State) : s.rearm.ans = s.ans := rfl

/-! ### clear -/

@[simp] theorem State.clear_eng (s : State) : s.clear.eng = { s.eng with phase := .idle, cnt := 0, rem := 0, grant := none } := rfl
@[simp] theorem State.clear_wd (s : State) : s.clear.wd = { enabled := false, count := 0 } := rfl
@[simp] theorem State.clear_gpiCount (s : State) : s.clear.gpiCount = s.gpiCount := rfl
@[simp] theorem State.clear_reg (s : State) : s.clear.reg = s.reg := rfl
@[simp] theorem State.clear_ee (s : State) : s.clear.ee = s.ee := rfl
@[simp] theorem State.clear_adc (s : State) : s.clear.adc = s.adc := rfl
@[simp] theorem State.clear_gpi (s : State) : s.clear.gpi = s.gpi := rfl
@[simp] theorem State.clear_sram (s : State) : s.clear.sram = s.sram := rfl
@[simp] theorem State.clear_log (s : State) : s.clear.log = s.log := rfl
@[simp] theorem State.clear_fault (s : State) : s.clear.fault = s.fault := rfl
@[simp] theorem State.clear_cfg (s : State) : s.clear.cfg = s.cfg := rfl
@[simp] theorem State.clear_inbox (s : State) : s.clear.inbox = s.inbox := rfl
@[simp] theorem State.clear_draws (s : State) : s.clear.draws = s.draws := rfl
@[simp] theorem State.clear_asked (s : State) : s.clear.asked = s.asked := rfl
@[simp] theorem State.clear_ans (s : State) : s.clear.ans = s.ans := rfl

/-! ### install -/

@[simp] theorem State.install_eng (s : State) (x : Answer) : (s.install x).eng = { s.eng with grant := x.grant, rem := x.cap, cnt := 0 } := rfl
@[simp] theorem State.install_wd (s : State) (x : Answer) : (s.install x).wd = s.wd := rfl
@[simp] theorem State.install_gpiCount (s : State) (x : Answer) : (s.install x).gpiCount = s.gpiCount := rfl
@[simp] theorem State.install_reg (s : State) (x : Answer) : (s.install x).reg = s.reg := rfl
@[simp] theorem State.install_ee (s : State) (x : Answer) : (s.install x).ee = s.ee := rfl
@[simp] theorem State.install_adc (s : State) (x : Answer) : (s.install x).adc = s.adc := rfl
@[simp] theorem State.install_gpi (s : State) (x : Answer) : (s.install x).gpi = s.gpi := rfl
@[simp] theorem State.install_sram (s : State) (x : Answer) : (s.install x).sram = s.sram := rfl
@[simp] theorem State.install_log (s : State) (x : Answer) : (s.install x).log = s.log := rfl
@[simp] theorem State.install_fault (s : State) (x : Answer) : (s.install x).fault = s.fault := rfl
@[simp] theorem State.install_cfg (s : State) (x : Answer) : (s.install x).cfg = s.cfg := rfl
@[simp] theorem State.install_inbox (s : State) (x : Answer) : (s.install x).inbox = s.inbox := rfl
@[simp] theorem State.install_draws (s : State) (x : Answer) : (s.install x).draws = s.draws := rfl
@[simp] theorem State.install_asked (s : State) (x : Answer) : (s.install x).asked = s.asked := rfl
@[simp] theorem State.install_ans (s : State) (x : Answer) : (s.install x).ans = s.ans := rfl

/-! ### countByte -/

@[simp] theorem State.countByte_eng (s : State) : s.countByte.eng = { s.eng with cnt := s.eng.cnt + 1, rem := s.eng.rem - 1 } := rfl
@[simp] theorem State.countByte_wd (s : State) : s.countByte.wd = s.wd := rfl
@[simp] theorem State.countByte_gpiCount (s : State) : s.countByte.gpiCount = s.gpiCount := rfl
@[simp] theorem State.countByte_reg (s : State) : s.countByte.reg = s.reg := rfl
@[simp] theorem State.countByte_ee (s : State) : s.countByte.ee = s.ee := rfl
@[simp] theorem State.countByte_adc (s : State) : s.countByte.adc = s.adc := rfl
@[simp] theorem State.countByte_gpi (s : State) : s.countByte.gpi = s.gpi := rfl
@[simp] theorem State.countByte_sram (s : State) : s.countByte.sram = s.sram := rfl
@[simp] theorem State.countByte_log (s : State) : s.countByte.log = s.log := rfl
@[simp] theorem State.countByte_fault (s : State) : s.countByte.fault = s.fault := rfl
@[simp] theorem State.countByte_cfg (s : State) : s.countByte.cfg = s.cfg := rfl
@[simp] theorem State.countByte_inbox (s : State) : s.countByte.inbox = s.inbox := rfl
@[simp] theorem State.countByte_draws (s : State) : s.countByte.draws = s.draws := rfl
@[simp] theorem State.countByte_asked (s : State) : s.countByte.asked = s.asked := rfl
@[simp] theorem State.countByte_ans (s : State) : s.countByte.ans = s.ans := rfl

end Sys2Proof.Machine
end

