-- ==== Sys2Proof/Laws/Devices.lean ====
section
/-! SUPPORT. What a device handler and a `Call` can do, said once: the provers cite `handler_frame`, `handler_grantOk`
and `call_cases` instead of unfolding the handlers. -/

namespace Sys2Proof.Machine

/-- What running a device of kind `k` leaves unchanged, and what it may change (R123, R40). -/
structure DeviceFrame (k : DeviceKind) (s t : State) : Prop where
  eng : t.eng = s.eng
  wd : t.wd = s.wd
  gpiCount : t.gpiCount = s.gpiCount
  reg : t.reg = s.reg
  fault : t.fault = s.fault
  cfg : t.cfg = s.cfg
  inbox : t.inbox = s.inbox
  ans : t.ans = s.ans
  ee : k ≠ .eeprom → t.ee = s.ee
  adc : k ≠ .adc → t.adc = s.adc
  gpi : k ≠ .gpi → t.gpi = s.gpi
  sram : k ≠ .sram → t.sram = s.sram
  mem : t.sram.mem = s.sram.mem
  win : t.ee.win = s.ee.win ∨ t.ee.win.length = s.cfg.eeWindow.toNat
  log : ∃ rs, t.log = s.log ++ rs

theorem DeviceFrame.refl (k : DeviceKind) (s : State) : DeviceFrame k s s :=
  ⟨rfl, rfl, rfl, rfl, rfl, rfl, rfl, rfl, fun _ => rfl, fun _ => rfl, fun _ => rfl, fun _ => rfl, rfl, .inl rfl,
    [], (List.append_nil _).symm⟩

theorem DeviceFrame.trans {k : DeviceKind} {s t u : State} (h : DeviceFrame k s t) (g : DeviceFrame k t u) :
    DeviceFrame k s u where
  eng := g.eng.trans h.eng
  wd := g.wd.trans h.wd
  gpiCount := g.gpiCount.trans h.gpiCount
  reg := g.reg.trans h.reg
  fault := g.fault.trans h.fault
  cfg := g.cfg.trans h.cfg
  inbox := g.inbox.trans h.inbox
  ans := g.ans.trans h.ans
  ee := fun x => (g.ee x).trans (h.ee x)
  adc := fun x => (g.adc x).trans (h.adc x)
  gpi := fun x => (g.gpi x).trans (h.gpi x)
  sram := fun x => (g.sram x).trans (h.sram x)
  mem := g.mem.trans h.mem
  win := by
    rcases g.win with hw | hw
    · rw [hw]; exact h.win
    · exact .inr (by rw [hw, h.cfg])
  log := by
    obtain ⟨a, ha⟩ := h.log
    obtain ⟨b, hb⟩ := g.log
    exact ⟨a ++ b, by rw [hb, ha, List.append_assoc]⟩

theorem emit_frame (k : DeviceKind) (r : Record) (s : State) : DeviceFrame k s (s.emit r) :=
  { DeviceFrame.refl k s with log := ⟨[r], rfl⟩ }

theorem noteRead_frame (k : DeviceKind) (q : Request) (s : State) : DeviceFrame k s (s.noteRead q) :=
  { DeviceFrame.refl k s with }

theorem setEe_frame (d : Eeprom) (s : State) (h : d.win = s.ee.win ∨ d.win.length = s.cfg.eeWindow.toNat) :
    DeviceFrame .eeprom s (s.setEe d) :=
  { DeviceFrame.refl .eeprom s with ee := fun x => absurd rfl x, win := h }

theorem setAdc_frame (d : Adc) (s : State) : DeviceFrame .adc s (s.setAdc d) :=
  { DeviceFrame.refl .adc s with adc := fun x => absurd rfl x }

theorem setSram_frame (d : Sram) (s : State) (h : d.mem = s.sram.mem) : DeviceFrame .sram s (s.setSram d) :=
  { DeviceFrame.refl .sram s with sram := fun x => absurd rfl x, mem := h }

theorem putGpi_frame (g : Gpi) (s : State) : DeviceFrame .gpi s (s.putGpi g) := by
  have h : DeviceFrame .gpi s (s.setGpi g) := { DeviceFrame.refl .gpi s with gpi := fun x => absurd rfl x }
  unfold State.putGpi
  split
  · exact h
  · exact h.trans (emit_frame _ _ _)

@[simp] theorem putGpi_gpi (g : Gpi) (s : State) : (s.putGpi g).gpi = g := by
  unfold State.putGpi
  split <;> rfl

/-- The record a change of the GPI line's level leaves, if any (R43). -/
def irqRecords (old new : Bool) : List Record := if new = old then [] else [.irq new]

/-- All that replacing the GPI's state does (R241, R43). -/
theorem putGpi_eq (g : Gpi) (s : State) :
    s.putGpi g = { s with gpi := g, log := s.log ++ irqRecords s.gpi.irq g.irq } := by
  unfold State.putGpi irqRecords
  split
  · simp [State.setGpi]
  · rfl

/-- All that a sample of the pins does (R240). -/
theorem gpiSample_eq (s : State) :
    gpiSample s =
      { s with
        gpi := s.gpi.sampled (s.answerTo .pinRead)
        log := s.log ++ irqRecords s.gpi.irq (s.gpi.sampled (s.answerTo .pinRead)).irq
        draws := s.draws.tail
        asked := s.asked ++ [.pinRead] } := by
  unfold gpiSample State.ask
  rw [putGpi_eq]
  rfl

/-! ### EEPROM -/

theorem eeByte_frame (k : DeviceKind) (a : U16) (s : State) : DeviceFrame k s (eeByte a s).2 := by
  unfold eeByte
  split
  · exact .refl k s
  · split
    · exact noteRead_frame _ _ _
    · exact noteRead_frame _ _ _
    · exact noteRead_frame _ _ _
    · exact .refl k s

theorem eeByte_ee (a : U16) (s : State) : (eeByte a s).2.ee = s.ee := (eeByte_frame .adc a s).ee (by decide)

theorem eeBytes_frame (k : DeviceKind) (n : Nat) (a : U16) (s : State) : DeviceFrame k s (eeBytes n a s).2 := by
  induction n generalizing a s with
  | zero => exact .refl k s
  | succ n ih => exact (eeByte_frame k a s).trans (ih _ _)

theorem eeBytes_length (n : Nat) (a : U16) (s : State) : (eeBytes n a s).1.length = n := by
  induction n generalizing a s with
  | zero => rfl
  | succ n ih => simp [eeBytes, ih]

theorem fillWindow_frame (c : U16) (s : State) : DeviceFrame .eeprom s (fillWindow c s) := by
  have h := eeBytes_frame .eeprom s.cfg.eeWindow.toNat c s
  refine h.trans (setEe_frame _ _ (.inr ?_))
  rw [h.cfg]
  exact eeBytes_length _ _ _

theorem eeWrite_frame (a : U16) (d : Byte) (s : State) : DeviceFrame .eeprom s (eeWrite a d s).2 := by
  unfold eeWrite
  split
  · exact (emit_frame _ _ _).trans (setEe_frame _ _ (.inl rfl))
  · exact setEe_frame _ _ (.inl rfl)

theorem eeCommit_frame (a : U16) (d : Byte) (s : State) : DeviceFrame .eeprom s (eeCommit a d s).2 := by
  unfold eeCommit
  split
  · exact setEe_frame _ _ (.inl rfl)
  split
  · exact setEe_frame _ _ (.inl rfl)
  split
  · exact setEe_frame _ _ (.inl rfl)
  split
  · exact emit_frame _ _ _
  · exact eeWrite_frame _ _ _

/-! ### ADC, GPI, SRAM -/

theorem adcConvert_frame (s : State) : DeviceFrame .adc s (adcConvert s).2 := by
  unfold adcConvert
  split
  · exact noteRead_frame _ _ _
  · exact (noteRead_frame _ _ _).trans (noteRead_frame _ _ _)

theorem gpiSample_frame (s : State) : DeviceFrame .gpi s (gpiSample s) :=
  (noteRead_frame _ _ _).trans (putGpi_frame _ _)

theorem gpiFinish_frame (s : State) : DeviceFrame .gpi s (gpiFinish s) :=
  (putGpi_frame _ _).trans (gpiSample_frame _)

theorem sramAdvance_frame (n : Count) (s : State) : DeviceFrame .sram s (sramAdvance n s) :=
  setSram_frame _ _ rfl

theorem sramWriteEnd_frame (n : Count) (s : State) : DeviceFrame .sram s (sramWriteEnd n s) := by
  unfold sramWriteEnd
  split
  · exact .refl _ s
  · exact sramAdvance_frame n s

/-! ### Every handler -/

/-- A handler changes its own device and the log, and asks its collaborators; nothing else (R123, R40). -/
theorem handler_frame (k : DeviceKind) (ph : Phase) (n : Count) (s : State) :
    DeviceFrame k s (handler k ph n s).2 := by
  obtain ⟨d, kd⟩ := ph
  cases k <;> cases d <;> cases kd <;> simp only [handler]
  · exact .refl _ s
  · exact (setEe_frame { s.ee with cursor := s.ee.stagedAddr } s (.inl rfl)).trans (eeCommit_frame _ _ _)
  · unfold eeWriteStop; dsimp only; split
    · exact setEe_frame _ _ (.inl rfl)
    · exact .refl _ s
  · exact .refl _ s
  · exact fillWindow_frame _ _
  · exact (setEe_frame { s.ee with cursor := s.ee.cursor + n } s (.inl rfl)).trans (fillWindow_frame _ _)
  · exact setEe_frame _ s (.inl rfl)
  · exact setEe_frame _ s (.inl rfl)
  · exact .refl _ s
  · exact setAdc_frame _ _
  · exact .refl _ s
  · exact .refl _ s
  · exact (adcConvert_frame s).trans (setAdc_frame _ _)
  · exact .refl _ s
  · exact .refl _ s
  · exact .refl _ s
  · exact putGpi_frame _ _
  · exact putGpi_frame _ _
  · exact gpiFinish_frame s
  · exact gpiFinish_frame s
  · exact ((putGpi_frame _ _).trans (gpiSample_frame _)).trans (putGpi_frame _ _)
  · exact .refl _ s
  · exact gpiFinish_frame s
  · exact gpiFinish_frame s
  · exact setSram_frame _ _ rfl
  · unfold sramWriteBufferFull
    split
    · exact setSram_frame _ _ rfl
    · exact sramAdvance_frame n s
  · exact sramWriteEnd_frame n s
  · exact sramWriteEnd_frame n s
  · exact .refl _ s
  · exact sramAdvance_frame n s
  · exact sramAdvance_frame n s
  · exact sramAdvance_frame n s

/-! ### Grants and calls -/

theorem sramWriteWindow_ok (p : Params) (c : U9) : (sramWriteWindow c).grantOk p .sram = true := by
  have h : c.toNat < 512 := c.isLt
  simp only [sramWriteWindow, Answer.window, Answer.grantOk, Space.size, Space.owner, Config.sramSize,
    BitVec.toNat_ofNat, Bool.and_eq_true, decide_eq_true_eq, beq_self_eq_true, and_true]
  omega

theorem sramReadWindow_ok (p : Params) (c : U9) : (sramReadWindow p c).grantOk p .sram = true := by
  have h : c.toNat < 512 := c.isLt
  simp only [sramReadWindow, sramLen, Answer.window, Answer.grantOk, Space.size, Space.owner, Config.sramSize,
    BitVec.toNat_ofNat, Bool.and_eq_true, decide_eq_true_eq, beq_self_eq_true, and_true]
  omega

/-- Every window the four devices return is well formed (R122, R263). -/
theorem handler_grantOk (k : DeviceKind) (ph : Phase) (n : Count) (s : State)
    (h : (handler k ph n s).1.cap ≠ 0) : (handler k ph n s).1.grantOk s.cfg k = true := by
  obtain ⟨d, kd⟩ := ph
  cases k <;> cases d <;> cases kd <;>
    first
    | rfl
    | exact absurd rfl h
    | exact sramWriteWindow_ok _ _
    | exact sramReadWindow_ok _ _
    | skip
  · simp [handler, eeReadStart, eeWindowAnswer, Answer.window, Answer.grantOk, Space.size, Space.owner]
  · simp [handler, eeReadBufferEmpty, eeWindowAnswer, Answer.window, Answer.grantOk, Space.size, Space.owner]
  · unfold handler sramWriteBufferFull
    dsimp only
    split <;> exact sramWriteWindow_ok _ _

/-- What a handler's answer becomes under R111: a Stop or Error answer, and one of capacity 0, keeps its ack alone. -/
def settled (ph : Phase) (a : Answer) : Answer :=
  match ph.kind with
  | .stop => .refuse a.ack
  | .error => .refuse a.ack
  | .start => if a.cap = 0 then .refuse a.ack else a
  | .boundary => if a.cap = 0 then .refuse a.ack else a

/-- A Start answer with capacity is kept. -/
theorem settled_start (d : Dir) (a : Answer) (h : a.cap ≠ 0) : settled ⟨d, .start⟩ a = a := if_neg h

/-- A BufferBoundary answer with capacity is kept. -/
theorem settled_boundary (d : Dir) (a : Answer) (h : a.cap ≠ 0) : settled ⟨d, .boundary⟩ a = a := if_neg h

/-- An answer of capacity 0 keeps its ack alone, in every phase (R111, R113). -/
theorem settled_zero (ph : Phase) (a : Answer) (h : a.cap = 0) : settled ph a = .refuse a.ack := by
  unfold settled
  cases ph.kind <;> simp [h]

/-- Running a handler never raises a fault (R285). -/
theorem runHandler_eq (k : DeviceKind) (slot : Slot) (ph : Phase) (n : Count) (s : State) :
    runHandler k slot ph (handler k ph) n s =
      .answered (settled ph (handler k ph n (s.emit (.call slot ph n))).1)
        (handler k ph n (s.emit (.call slot ph n))).2 := by
  have hc := (handler_frame k ph n (s.emit (.call slot ph n))).cfg
  have hg := handler_grantOk k ph n (s.emit (.call slot ph n))
  unfold runHandler settleAnswer settled
  cases ph.kind <;> dsimp only
  · split
    · rfl
    · rename_i h; rw [hc]; simp only [hg h, if_true]
  · split
    · rfl
    · rename_i h; rw [hc]; simp only [hg h, if_true]

/-- What a `Call` comes to (R111): the null device answers `(None, 0, Nack)` and changes nothing; a device's handler
runs after its Call record. -/
theorem call_eq (slot : Slot) (ph : Phase) (n : Count) (s : State) :
    call slot ph n s =
      match s.deviceAt slot with
      | none => .answered (.refuse .nack) s
      | some k =>
        .answered (settled ph (handler k ph n (s.emit (.call slot ph n))).1)
          (handler k ph n (s.emit (.call slot ph n))).2 := by
  unfold call
  cases s.deviceAt slot with
  | none => rfl
  | some k => exact runHandler_eq k slot ph n s

/-- A settled answer has no window, or a well-formed one of its capacity (R122). -/
theorem settled_cases (k : DeviceKind) (ph : Phase) (n : Count) (s : State) :
    (settled ph (handler k ph n s).1).grant = none ∧ (settled ph (handler k ph n s).1).cap = 0 ∨
      ∃ w, (settled ph (handler k ph n s).1).grant = some w ∧ w.len = (settled ph (handler k ph n s).1).cap ∧
        w.len ≠ 0 ∧ w.base + w.len.toNat ≤ w.space.size s.cfg ∧ w.space.owner = k := by
  have key : (handler k ph n s).1.cap ≠ 0 → ∃ w, (handler k ph n s).1.grant = some w ∧
      w.len = (handler k ph n s).1.cap ∧ w.len ≠ 0 ∧ w.base + w.len.toNat ≤ w.space.size s.cfg ∧
        w.space.owner = k := by
    intro h
    have hg := handler_grantOk k ph n s h
    unfold Answer.grantOk at hg
    split at hg
    · simp at hg
    · rename_i w hw
      simp only [Bool.and_eq_true, decide_eq_true_eq, beq_iff_eq] at hg
      exact ⟨w, hw, hg.1.2, by rw [hg.1.2]; exact h, by rw [hg.1.2]; exact hg.1.1, hg.2⟩
  unfold settled
  split
  · exact .inl ⟨rfl, rfl⟩
  · exact .inl ⟨rfl, rfl⟩
  · split
    · exact .inl ⟨rfl, rfl⟩
    · exact .inr (key ‹_›)
  · split
    · exact .inl ⟨rfl, rfl⟩
    · exact .inr (key ‹_›)

end Sys2Proof.Machine
end

