-- ==== Sys2Proof/Laws/Encoding.lean ====
section
/-! SUPPORT. The bit fields of the encodings put together and taken apart (spec/30_encoding.md R81, R82, R94,
spec/00_scope.md R9), and the token lists read back. -/

namespace Sys2Proof

@[simp] theorem windowOf_addrByte (b : BitVec 5) (s : Slot) (d : Dir) : windowOf (addrByte b s d) = b := by
  unfold windowOf addrByte
  cases d <;> (revert b s; decide)

@[simp] theorem slotOf_addrByte (b : BitVec 5) (s : Slot) (d : Dir) : slotOf (addrByte b s d) = s := by
  unfold slotOf addrByte
  cases d <;> (revert b s; decide)

@[simp] theorem dirOf_addrByte (b : BitVec 5) (s : Slot) (d : Dir) : dirOf (addrByte b s d) = d := by
  unfold dirOf addrByte
  cases d <;> (revert b s; decide)

/-- An F-ADDR byte is its three fields. -/
theorem addrByte_fields (a : Byte) : addrByte (windowOf a) (slotOf a) (dirOf a) = a := by
  revert a
  decide

/-- An address is its two bytes (R9). -/
@[simp] theorem cat16_hi8_lo8 (a : U16) : cat16 (hi8 a) (lo8 a) = a := by
  apply BitVec.eq_of_getLsbD_eq
  intro i hi
  simp only [cat16, hi8, lo8, BitVec.getLsbD_append, BitVec.getLsbD_extractLsb']
  split
  · simp [*]
  · have h : i - 8 < 8 := by omega
    have g : 8 + (i - 8) = i := by omega
    simp [h, g]

@[simp] theorem hi8_cat16 (h l : Byte) : hi8 (cat16 h l) = h := by
  apply BitVec.eq_of_getLsbD_eq
  intro i hi
  have g : ¬ 8 + i < 8 := by omega
  rw [hi8, cat16, BitVec.getLsbD_extractLsb', BitVec.getLsbD_append]
  simp [hi]

@[simp] theorem lo8_cat16 (h l : Byte) : lo8 (cat16 h l) = l := by
  apply BitVec.eq_of_getLsbD_eq
  intro i hi
  rw [lo8, cat16, BitVec.getLsbD_extractLsb', BitVec.getLsbD_append]
  simp [hi]

/-- The requests of a read frame are read back. -/
@[simp] theorem decodeReqs_map (rs : List Bool) : decodeReqs (rs.map reqToken) = some rs := by
  induction rs with
  | nil => rfl
  | cons r rs ih => cases r <;> simp [reqToken, decodeReqs, ih]

/-- The data bytes of a write frame are read back. -/
@[simp] theorem decodeBytes_map (bs : List Byte) : decodeBytes (bs.map .byte) = some bs := by
  induction bs with
  | nil => rfl
  | cons b bs ih => simp [decodeBytes, ih]

/-- What reads as requests is those requests' tokens. -/
theorem decodeReqs_some (ts : List Token) (rs : List Bool) (h : decodeReqs ts = some rs) : rs.map reqToken = ts := by
  induction ts generalizing rs with
  | nil => simp only [decodeReqs, Option.some.injEq] at h; subst h; rfl
  | cons t ts ih =>
    cases t <;> simp [decodeReqs] at h
    all_goals obtain ⟨r, hr, rfl⟩ := h; simp [ih r hr, reqToken]

/-- What reads as data bytes is those bytes' tokens. -/
theorem decodeBytes_some (ts : List Token) (bs : List Byte) (h : decodeBytes ts = some bs) :
    bs.map Token.byte = ts := by
  induction ts generalizing bs with
  | nil => simp only [decodeBytes, Option.some.injEq] at h; subst h; rfl
  | cons t ts ih =>
    cases t <;> simp [decodeBytes] at h
    obtain ⟨r, hr, rfl⟩ := h
    simp [ih r hr]

end Sys2Proof
end

