-- ==== Sys2Proof/Laws/Memory.lean ====
section
/-! SUPPORT. The memory: a byte written is the byte read back, every other byte is left alone, and every operation
keeps the canonical form. -/

namespace Sys2Proof.Machine

@[simp] theorem Memory.read_nil (a : Nat) : Memory.read a [] = Memory.unlisted := rfl

theorem Memory.read_cell_same (a : Nat) (v : Byte) (rest : Memory) (h : Memory.read a rest = Memory.unlisted) :
    Memory.read a (Memory.cell a v rest) = v := by
  unfold Memory.cell
  split
  · simp_all
  · simp [Memory.read]

theorem Memory.read_cell_other (a c : Nat) (v : Byte) (rest : Memory) (h : c ≠ a) :
    Memory.read c (Memory.cell a v rest) = Memory.read c rest := by
  unfold Memory.cell
  split
  · rfl
  · simp [Memory.read, Ne.symm h]

/-- An address below every listed one reads as unlisted. -/
theorem Memory.read_below {hi lo a : Nat} {m : Memory} (h : Memory.wfFrom hi lo m = true) (ha : a < lo) :
    Memory.read a m = Memory.unlisted := by
  induction m generalizing lo with
  | nil => rfl
  | cons c rest ih =>
    obtain ⟨k, b⟩ := c
    simp only [Memory.wfFrom, Bool.and_eq_true, decide_eq_true_eq] at h
    obtain ⟨⟨⟨h1, _⟩, _⟩, h4⟩ := h
    simp only [Memory.read, show k ≠ a by omega, if_false]
    exact ih h4 (by omega)

theorem Memory.wfFrom_mono {hi lo lo' : Nat} {m : Memory} (h : Memory.wfFrom hi lo m = true) (hl : lo' ≤ lo) :
    Memory.wfFrom hi lo' m = true := by
  cases m with
  | nil => rfl
  | cons c rest =>
    simp only [Memory.wfFrom, Bool.and_eq_true, decide_eq_true_eq] at h ⊢
    exact ⟨⟨⟨by omega, h.1.1.2⟩, h.1.2⟩, h.2⟩

theorem Memory.wfFrom_cell {hi lo a : Nat} {v : Byte} {rest : Memory} (h : Memory.wfFrom hi (a + 1) rest = true)
    (hl : lo ≤ a) (hh : a < hi) : Memory.wfFrom hi lo (Memory.cell a v rest) = true := by
  unfold Memory.cell
  split
  · exact Memory.wfFrom_mono h (by omega)
  · simp_all [Memory.wfFrom]

/-- Writing one byte keeps the canonical form. -/
theorem Memory.wfFrom_write {hi lo a : Nat} {v : Byte} {m : Memory} (h : Memory.wfFrom hi lo m = true)
    (hl : lo ≤ a) (hh : a < hi) : Memory.wfFrom hi lo (Memory.write a v m) = true := by
  induction m generalizing lo with
  | nil => exact Memory.wfFrom_cell rfl hl hh
  | cons c rest ih =>
    obtain ⟨k, b⟩ := c
    have h' := h
    simp only [Memory.wfFrom, Bool.and_eq_true, decide_eq_true_eq] at h
    obtain ⟨⟨⟨h1, h2⟩, h3⟩, h4⟩ := h
    unfold Memory.write
    split
    · rename_i hk
      simp only [Memory.wfFrom, Bool.and_eq_true, decide_eq_true_eq]
      exact ⟨⟨⟨h1, h2⟩, h3⟩, ih h4 (by omega)⟩
    · split
      · rename_i _ hk
        subst hk
        exact Memory.wfFrom_cell h4 hl hh
      · refine Memory.wfFrom_cell ?_ hl hh
        simp only [Memory.wfFrom, Bool.and_eq_true, decide_eq_true_eq]
        exact ⟨⟨⟨by omega, h2⟩, h3⟩, h4⟩

/-- A write inside the array keeps the SRAM's canonical form. -/
theorem Memory.wf_write {a : Nat} {v : Byte} {m : Memory} (h : Memory.wf m = true) (ha : a < Config.sramSize) :
    Memory.wf (Memory.write a v m) = true :=
  Memory.wfFrom_write h (Nat.zero_le a) ha

/-- A byte written is read back. -/
theorem Memory.read_write_same {hi lo a : Nat} {v : Byte} {m : Memory} (h : Memory.wfFrom hi lo m = true) :
    Memory.read a (Memory.write a v m) = v := by
  induction m generalizing lo with
  | nil => exact Memory.read_cell_same a v [] rfl
  | cons c rest ih =>
    obtain ⟨k, b⟩ := c
    have h' := h
    simp only [Memory.wfFrom, Bool.and_eq_true, decide_eq_true_eq] at h
    unfold Memory.write
    split
    · rename_i hk
      simp only [Memory.read, show k ≠ a by omega, if_false]
      exact ih h.2
    · split
      · rename_i _ hk
        subst hk
        exact Memory.read_cell_same _ v rest (Memory.read_below h.2 (by omega))
      · rename_i h1 h2
        refine Memory.read_cell_same a v _ ?_
        simp only [Memory.read, h2, if_false]
        exact Memory.read_below h.2 (by omega)

/-- Every other byte is left alone. -/
theorem Memory.read_write_other {a c : Nat} (v : Byte) (m : Memory) (h : c ≠ a) :
    Memory.read c (Memory.write a v m) = Memory.read c m := by
  induction m with
  | nil => exact Memory.read_cell_other a c v [] h
  | cons x rest ih =>
    obtain ⟨k, b⟩ := x
    unfold Memory.write
    split
    · simp only [Memory.read, ih]
    · split
      · rename_i _ hk
        subst hk
        rw [Memory.read_cell_other _ _ _ _ h]
        simp [Memory.read, Ne.symm h]
      · exact Memory.read_cell_other a c v _ h

/-- The cells a byte function lists from an ascending list of addresses. -/
theorem Memory.wfFrom_listed (f : Nat → Byte) (n lo : Nat) :
    Memory.wfFrom (lo + n) lo
      ((List.range' lo n).filterMap fun i => if f i = 0x00 then none else some (i, f i)) = true := by
  induction n generalizing lo with
  | zero => rfl
  | succ n ih =>
    have h := ih (lo + 1)
    rw [show lo + 1 + n = lo + (n + 1) by omega] at h
    rw [List.range'_succ, List.filterMap_cons]
    by_cases hz : f lo = 0x00
    · simp only [if_pos hz]
      exact Memory.wfFrom_mono h (Nat.le_succ lo)
    · simp only [if_neg hz]
      simp only [Memory.wfFrom, Bool.and_eq_true, decide_eq_true_eq]
      exact ⟨⟨⟨Nat.le_refl lo, by omega⟩, by simpa [Memory.unlisted] using hz⟩, h⟩

/-- What a byte function's cells read as: the function. -/
theorem Memory.read_listed (f : Nat → Byte) (n lo a : Nat) (h1 : lo ≤ a) (h2 : a < lo + n) :
    Memory.read a ((List.range' lo n).filterMap fun i => if f i = 0x00 then none else some (i, f i)) = f a := by
  induction n generalizing lo with
  | zero => omega
  | succ n ih =>
    rw [List.range'_succ, List.filterMap_cons]
    by_cases hz : f lo = 0x00
    · simp only [if_pos hz]
      rcases Nat.lt_or_ge lo a with hlt | hge
      · exact ih (lo + 1) hlt (by omega)
      · obtain rfl : lo = a := by omega
        rw [Memory.read_below (Memory.wfFrom_listed f n (lo + 1)) (Nat.lt_succ_self lo), hz]
        rfl
    · simp only [if_neg hz]
      by_cases ha : lo = a
      · subst ha
        simp [Memory.read]
      · simp only [Memory.read, ha, if_false]
        exact ih (lo + 1) (by omega) (by omega)

/-- The SRAM contents at power-up are in canonical form. -/
theorem Memory.wf_powerUp : Memory.wf Config.sramPowerUp = true := by
  have h := Memory.wfFrom_listed Config.sramDraw Config.sramSize 0
  rw [Nat.zero_add, ← List.range_eq_range'] at h
  exact h

/-- Every byte of the SRAM reads as its draw right after reset (R35, R310). -/
theorem Memory.read_powerUp (a : Nat) (h : a < Config.sramSize) :
    Memory.read a Config.sramPowerUp = Config.sramDraw a := by
  have := Memory.read_listed Config.sramDraw Config.sramSize 0 a (Nat.zero_le a) (by omega)
  rwa [← List.range_eq_range'] at this

end Sys2Proof.Machine
end

