-- ==== Sys2Proof/Laws/Engine.lean ====
section
/-! SUPPORT. What the engine's operations do, said once, with the device's handler named and not unfolded: the provers
cite these instead of unfolding `call`, `runHandler` and `install`. -/

namespace Sys2Proof.Machine

/-! ### A phase handler run alone -/

/-- All that a phase handler row does (log 10): the Call record, the handler, its settled answer kept. -/
theorem runPhase_eq (k : DeviceKind) (ph : Phase) (n : Count) (s : State) :
    runPhase k ph (handler k ph) n s =
      (handler k ph n (s.emit (.call s.eng.slot ph n))).2.setAns
        (settled ph (handler k ph n (s.emit (.call s.eng.slot ph n))).1) := by
  unfold runPhase
  rw [runHandler_eq]
  rfl

/-! ### A call -/

/-- The Call record and the handler, as one change of the state. -/
theorem called_frame (k : DeviceKind) (slot : Slot) (ph : Phase) (n : Count) (s : State) :
    DeviceFrame k s (handler k ph n (s.emit (.call slot ph n))).2 :=
  (emit_frame k (.call slot ph n) s).trans (handler_frame k ph n _)

/-- A call of a registered slot. -/
theorem call_some {slot : Slot} {k : DeviceKind} {s : State} (h : s.deviceAt slot = some k) (ph : Phase) (n : Count) :
    call slot ph n s =
      .answered (settled ph (handler k ph n (s.emit (.call slot ph n))).1)
        (handler k ph n (s.emit (.call slot ph n))).2 := by
  rw [call_eq, h]

/-- A call of an Empty slot (R125). -/
theorem call_none {slot : Slot} {s : State} (h : s.deviceAt slot = none) (ph : Phase) (n : Count) :
    call slot ph n s = .answered (.refuse .nack) s := by
  rw [call_eq, h]

/-- Every call is answered, changes one device at most, and its answer has no window, or a well-formed one of the
slot's device with the capacity's length (R111, R122). -/
theorem call_answered (slot : Slot) (ph : Phase) (n : Count) (s : State) :
    ∃ a t, call slot ph n s = .answered a t ∧
      (∃ k, (s.deviceAt slot = some k ∨ t = s) ∧ DeviceFrame k s t) ∧
      (a.grant = none ∧ a.cap = 0 ∨
        ∃ w, a.grant = some w ∧ w.len = a.cap ∧ w.len ≠ 0 ∧ w.base + w.len.toNat ≤ w.space.size s.cfg ∧
          s.deviceAt slot = some w.space.owner) := by
  cases h : s.deviceAt slot with
  | none => exact ⟨_, _, call_none h ph n, ⟨.adc, .inr rfl, .refl _ _⟩, .inl ⟨rfl, rfl⟩⟩
  | some k =>
    refine ⟨_, _, call_some h ph n, ⟨k, .inl rfl, called_frame k slot ph n s⟩, ?_⟩
    rcases settled_cases k ph n (s.emit (.call slot ph n)) with hn | ⟨w, h1, h2, h3, h4, h5⟩
    · exact .inl hn
    · exact .inr ⟨w, h1, h2, h3, h4, by rw [h5]⟩

/-! ### The Stop a restart owes -/

/-- What a restart's Stop changes: one device at most, and the log. -/
theorem restartStop_frame (s : State) : ∃ k, (s.deviceAt s.eng.slot = some k ∨ restartStop s = s) ∧
    DeviceFrame k s (restartStop s) := by
  unfold restartStop
  split
  · obtain ⟨a, t, hc, ⟨k, hk, hf⟩, _⟩ := call_answered s.eng.slot ⟨s.eng.dir, .stop⟩ s.eng.cnt s
    rw [hc]
    exact ⟨k, hk, hf⟩
  · exact ⟨.adc, .inr rfl, .refl _ _⟩

/-- No Stop is owed from Idle (R131). -/
theorem restartStop_idle {s : State} (h : s.eng.phase = .idle) : restartStop s = s := by
  simp [restartStop, Engine.stopPending, h]

/-- No Stop is owed with nothing counted (R131). -/
theorem restartStop_fresh {s : State} (h : s.eng.cnt = 0) : restartStop s = s := by
  simp [restartStop, Engine.stopPending, h]

@[simp] theorem restartStop_eng (s : State) : (restartStop s).eng = s.eng := (restartStop_frame s).choose_spec.2.eng
@[simp] theorem restartStop_wd (s : State) : (restartStop s).wd = s.wd := (restartStop_frame s).choose_spec.2.wd
@[simp] theorem restartStop_reg (s : State) : (restartStop s).reg = s.reg := (restartStop_frame s).choose_spec.2.reg
@[simp] theorem restartStop_cfg (s : State) : (restartStop s).cfg = s.cfg := (restartStop_frame s).choose_spec.2.cfg
@[simp] theorem restartStop_fault (s : State) : (restartStop s).fault = s.fault :=
  (restartStop_frame s).choose_spec.2.fault
@[simp] theorem restartStop_mem (s : State) : (restartStop s).sram.mem = s.sram.mem :=
  (restartStop_frame s).choose_spec.2.mem
@[simp] theorem restartStop_deviceAt (s : State) (slot : Slot) : (restartStop s).deviceAt slot = s.deviceAt slot := by
  simp [State.deviceAt]

/-! ### Address events -/

/-- The state a Start handler is called on (R131). -/
def opened (slot : Slot) (dir : Dir) (s : State) : State := openTransaction slot dir (restartStop s)

@[simp] theorem opened_eng (slot : Slot) (dir : Dir) (s : State) :
    (opened slot dir s).eng = { phase := .addressed, slot := slot, dir := dir, cnt := 0, rem := 0, grant := none } := rfl

@[simp] theorem opened_deviceAt (slot q : Slot) (dir : Dir) (s : State) :
    (opened slot dir s).deviceAt q = s.deviceAt q := restartStop_deviceAt s q

@[simp] theorem opened_cfg (slot : Slot) (dir : Dir) (s : State) : (opened slot dir s).cfg = s.cfg := restartStop_cfg s

/-- An address match on a registered slot: the device's Start, its answer installed, its acknowledge driven. -/
theorem addressMatch_some {slot : Slot} {k : DeviceKind} {s : State} (h : s.deviceAt slot = some k) (dir : Dir) :
    addressMatch slot dir s =
      let u := (opened slot dir s).emit (.call slot ⟨dir, .start⟩ 0)
      let a := settled ⟨dir, .start⟩ (handler k ⟨dir, .start⟩ 0 u).1
      ((handler k ⟨dir, .start⟩ 0 u).2.install a).emit (.ack a.ack) := by
  unfold addressMatch
  change
    (match call slot ⟨dir, .start⟩ 0 (opened slot dir s) with
      | .raised t => t
      | .answered a t => (t.install a).emit (.ack a.ack)) = _
  rw [call_some ((opened_deviceAt slot slot dir s).trans h)]

/-- An address match on an Empty slot. -/
theorem addressMatch_none {slot : Slot} {s : State} (h : s.deviceAt slot = none) (dir : Dir) :
    addressMatch slot dir s = ((opened slot dir s).install (.refuse .nack)).emit (.ack .nack) := by
  unfold addressMatch
  change
    (match call slot ⟨dir, .start⟩ 0 (opened slot dir s) with
      | .raised t => t
      | .answered a t => (t.install a).emit (.ack a.ack)) = _
  rw [call_none ((opened_deviceAt slot slot dir s).trans h)]
  rfl

/-- An address event the block answers. -/
theorem addressEvent_base {slot : Slot} {s : State} (h : s.cfg.answers slot = true) (dir : Dir) :
    addressEvent s.cfg.base slot dir s = addressMatch slot dir s := if_pos h

/-- An address event the block does not answer (R82, R96). -/
theorem addressEvent_ignored {b : BitVec 5} {slot : Slot} {s : State} (h : s.cfg.selects b slot = false) (dir : Dir) :
    addressEvent b slot dir s = s := if_neg (by simp [h])

/-! ### Bus traces -/

/-- Written bytes of a transaction of the block are data events (R11). -/
@[simp] theorem tokenEvents_bytes (p : Params) (bs : List Byte) :
    tokenEvents p .data (bs.map .byte) = bs.map fun b => .data b false := by
  induction bs with
  | nil => rfl
  | cons b bs ih => simpa [tokenEvents, Heard.event, Heard.after, Token.event] using ih

/-- Read requests of a transaction of the block are data events (R11). -/
@[simp] theorem tokenEvents_reqs (p : Params) (reqs : List Bool) :
    tokenEvents p .data (reqs.map reqToken) = reqs.map fun nacked => .data Config.requestRx nacked := by
  induction reqs with
  | nil => rfl
  | cons r rs ih => cases r <;> simpa [tokenEvents, reqToken, Heard.event, Heard.after, Token.event] using ih

/-- A frame to an answered slot is its address event, then its data events (R11). -/
theorem runFrame_answered {slot : Slot} {s : State} (h : s.cfg.answers slot = true) (dir : Dir) (ts : List Token) :
    runFrame slot dir ts s =
      busEvents (.addr (addrByte s.cfg.base slot dir) :: tokenEvents s.cfg .data ts) s := by
  have hs : s.cfg.selects s.cfg.base slot = true := h
  simp [windowOf_addrByte, slotOf_addrByte, runFrame, runTokens, tokenEvents, Heard.event, Heard.after, hs]

/-- A frame to an address the block does not answer is no event (R82, R96). -/
theorem runFrame_ignored {slot : Slot} {s : State} (h : s.cfg.answers slot = false) (dir : Dir) (ts : List Token)
    (hts : ∀ t ∈ ts, t ≠ .stop ∧ t ≠ .restart ∧ t ≠ .start ∧ t ≠ .error) : runFrame slot dir ts s = s := by
  have hs : s.cfg.selects s.cfg.base slot = false := h
  have hq : ∀ us : List Token, (∀ t ∈ us, t ≠ .stop ∧ t ≠ .restart ∧ t ≠ .start ∧ t ≠ .error) →
      tokenEvents s.cfg .ignored us = [] := by
    intro us hus
    induction us with
    | nil => rfl
    | cons u us ih =>
      have hu := hus u (by simp)
      have := ih fun t ht => hus t (by simp [ht])
      cases u <;> simp_all [tokenEvents, Heard.event, Heard.after]
  simp [windowOf_addrByte, slotOf_addrByte, runFrame, runTokens, tokenEvents, Heard.event, Heard.after, hs, hq ts hts,
    busEvents]

/-! ### Granted bytes -/

/-- Every index below a space's size has a byte, the EEPROM's window at its full length (R60). -/
theorem readByte_some (s : State) (sp : Space) (i : Nat) (hw : s.ee.win.length = s.cfg.eeWindow.toNat)
    (h : i < sp.size s.cfg) : ∃ b, s.readByte sp i = some b := by
  cases sp <;> simp only [Space.size, Config.sramSize] at h <;> simp only [State.readByte]
  · exact ⟨s.ee.stage[i], Vector.getElem?_eq_getElem h⟩
  · exact ⟨s.ee.win[i]'(by omega), List.getElem?_eq_getElem _⟩
  · exact ⟨s.adc.stage, by simp; omega⟩
  · exact ⟨s.adc.res, by simp; omega⟩
  · exact ⟨s.gpi.stage, by simp; omega⟩
  · exact ⟨s.gpi.rbuf[i], Vector.getElem?_eq_getElem h⟩
  · exact ⟨_, rfl⟩
  · exact ⟨s.sram.stage[i], Vector.getElem?_eq_getElem h⟩

/-- The byte due in a live grant with room for it. -/
theorem dueByte_some {s : State} {w : Win} (hg : s.eng.grant = some w)
    (h : w.base + s.eng.cnt.toNat < w.space.size s.cfg) : s.dueByte = some (w.space, w.base + s.eng.cnt.toNat) := by
  simp [State.dueByte, hg, h]

/-- The byte a live grant with capacity left has due is sent (R133). -/
theorem shiftOut_read {s : State} {w : Win} {b : Byte} (hr : s.eng.rem ≠ 0) (hg : s.eng.grant = some w)
    (h : w.base + s.eng.cnt.toNat < w.space.size s.cfg)
    (hb : s.readByte w.space (w.base + s.eng.cnt.toNat) = some b) : shiftOut s = s.countByte.emit (.tx b) := by
  unfold shiftOut
  rw [if_neg hr]
  simp [State.grantedByte, dueByte_some hg h, hb]

/-- A live grant with capacity left always has a byte due, the EEPROM's window at its full length. -/
theorem shiftOut_due {s : State} {w : Win} (hr : s.eng.rem ≠ 0) (hg : s.eng.grant = some w)
    (h : w.base + s.eng.cnt.toNat < w.space.size s.cfg) (hw : s.ee.win.length = s.cfg.eeWindow.toNat) :
    ∃ b, s.readByte w.space (w.base + s.eng.cnt.toNat) = some b ∧ shiftOut s = s.countByte.emit (.tx b) := by
  obtain ⟨b, hb⟩ := readByte_some s w.space _ hw h
  exact ⟨b, hb, shiftOut_read hr hg h hb⟩

/-- With no capacity left FILL is sent (R133). -/
theorem shiftOut_empty {s : State} (hr : s.eng.rem = 0) : shiftOut s = s.emit (.tx Config.fill) := if_pos hr

/-- A byte that no live grant holds is sent as FILL (R96, log 7). -/
theorem shiftOut_beyond {s : State} (hd : s.grantedByte = none) : shiftOut s = s.emit (.tx Config.fill) := by
  simp [shiftOut, hd]

/-- A refill of a registered slot: BufferBoundary, its answer installed, then the byte. -/
theorem refill_some {k : DeviceKind} {s : State} (h : s.deviceAt s.eng.slot = some k) :
    refill s =
      let u := s.emit (.call s.eng.slot ⟨.read, .boundary⟩ s.eng.cnt)
      shiftOut
        ((handler k ⟨.read, .boundary⟩ s.eng.cnt u).2.install
          (settled ⟨.read, .boundary⟩ (handler k ⟨.read, .boundary⟩ s.eng.cnt u).1)) := by
  unfold refill
  rw [call_some h]

/-- A refill of an Empty slot. -/
theorem refill_none {s : State} (h : s.deviceAt s.eng.slot = none) :
    refill s = shiftOut (s.install (.refuse .nack)) := by
  unfold refill
  rw [call_none h]

/-- The byte that fills a grant of a registered slot: BufferBoundary, its answer installed, its acknowledge driven. -/
theorem deliverFull_some {k : DeviceKind} {s : State} (h : s.deviceAt s.eng.slot = some k) :
    deliverFull s =
      let u := s.emit (.call s.eng.slot ⟨.write, .boundary⟩ s.eng.cnt)
      let a := settled ⟨.write, .boundary⟩ (handler k ⟨.write, .boundary⟩ s.eng.cnt u).1
      ((handler k ⟨.write, .boundary⟩ s.eng.cnt u).2.install a).emit (.ack a.ack) := by
  unfold deliverFull
  rw [call_some h]

/-- A received byte with no capacity left is Nacked (R134). -/
theorem receiveByte_empty {s : State} (hr : s.eng.rem = 0) (rx : Byte) :
    receiveByte rx s = (openExchange s).emit (.ack .nack) := if_pos hr

/-- A received byte with capacity left is stored in the live grant, counted, and acknowledged or delivered (R134). -/
theorem receiveByte_due {s : State} {w : Win} (hr : s.eng.rem ≠ 0) (hg : s.eng.grant = some w)
    (h : w.base + s.eng.cnt.toNat < w.space.size s.cfg) (rx : Byte) :
    receiveByte rx s =
      let u := ((openExchange s).storeByte w.space (w.base + s.eng.cnt.toNat) rx).countByte
      if s.eng.rem = 1 then deliverFull u else u.emit (.ack .ack) := by
  have hd : (openExchange s).dueByte = some (w.space, w.base + s.eng.cnt.toNat) := dueByte_some hg h
  unfold receiveByte
  rw [if_neg hr, hd]

/-- A received byte that no live grant holds is Nacked (R96, log 7). -/
theorem receiveByte_beyond {s : State} (hd : (openExchange s).dueByte = none) (rx : Byte) :
    receiveByte rx s = (openExchange s).emit (.ack .nack) := by
  simp [receiveByte, hd]

/-- What storing a granted byte leaves: every register but the device's own staging, response or array byte (R40). -/
theorem storeByte_frame (sp : Space) (i : Nat) (v : Byte) (s : State) :
    (s.storeByte sp i v).eng = s.eng ∧ (s.storeByte sp i v).wd = s.wd ∧ (s.storeByte sp i v).gpiCount = s.gpiCount ∧
      (s.storeByte sp i v).reg = s.reg ∧ (s.storeByte sp i v).fault = s.fault ∧ (s.storeByte sp i v).cfg = s.cfg ∧
      (s.storeByte sp i v).inbox = s.inbox ∧ (s.storeByte sp i v).log = s.log ∧
      (s.storeByte sp i v).draws = s.draws ∧ (s.storeByte sp i v).asked = s.asked ∧ (s.storeByte sp i v).ans = s.ans ∧
      (sp.owner ≠ .eeprom → (s.storeByte sp i v).ee = s.ee) ∧ (sp.owner ≠ .adc → (s.storeByte sp i v).adc = s.adc) ∧
      (sp.owner ≠ .gpi → (s.storeByte sp i v).gpi = s.gpi) ∧ (sp.owner ≠ .sram → (s.storeByte sp i v).sram = s.sram) ∧
      (s.storeByte sp i v).ee.win.length = s.ee.win.length ∧ (s.storeByte sp i v).ee.arm = s.ee.arm ∧
      (s.storeByte sp i v).ee.cursor = s.ee.cursor ∧ (s.storeByte sp i v).gpi.irq = s.gpi.irq ∧
      (s.storeByte sp i v).gpi.trans = s.gpi.trans ∧ (s.storeByte sp i v).gpi.armed = s.gpi.armed := by
  cases sp <;> simp [State.storeByte, Space.owner, Gpi.irq]

end Sys2Proof.Machine
end

