-- ==== Sys2Proof/Laws/PerInstr.lean ====
section
/-! SUPPORT. One lemma per constructor of `Instr`: the encoding of a well-formed operation is an item that reaches the
block (spec/30_encoding.md R82, R96). -/

namespace Sys2Proof.Laws

/-- The item reaches the block: every address byte in it lies in the block's window, and a frame has bytes after its
address byte (R82, R97). -/
def reaches (p : Params) : PortItem → Bool
  | .event e => e.wf p
  | .tick between => between.all (BusEvent.wf p)
  | .phase _ => true
  | .frame [] => false
  | .frame (.byte a :: ts) => p.selects (windowOf a) (slotOf a) && !ts.isEmpty
  | .frame (.req :: _) => false
  | .frame (.reqNack :: _) => false
  | .frame (.stop :: _) => false
  | .frame (.restart :: _) => false
  | .frame (.start :: _) => false
  | .frame (.error :: _) => false

theorem reaches_writeFrame (c : Ctx) (s : Slot) (t : Token) (ts : List Token) :
    c.cfg.answers s = true → reaches c.cfg (writeFrame c s (t :: ts)) = true := by
  intro h
  simpa [writeFrame, reaches, Params.answers] using h

theorem reaches_readFrame (c : Ctx) (s : Slot) (reqs : List Bool) (h : 1 ≤ reqs.length) :
    c.cfg.answers s = true → reaches c.cfg (readFrame c s reqs) = true := by
  intro ha
  cases reqs with
  | nil => simp at h
  | cons r rs => simpa [readFrame, reaches, Params.answers] using ha

theorem reaches_address (p : Params) (b : BitVec 5) (s : Slot) (d : Dir) (h : p.selects b s = true) :
    reaches p (.event (.addr (addrByte b s d))) = true := by
  have hw : (addrByte b s d).extractLsb' 3 5 = b := windowOf_addrByte b s d
  have hs : (addrByte b s d).extractLsb' 1 2 = s := slotOf_addrByte b s d
  simpa [reaches, BusEvent.wf, hw, hs] using h

/-- A frame row's slot is answered. -/
theorem answers_of_serves {c : Ctx} {s : Slot} {k : DeviceKind} (h : c.serves s k = true) : c.cfg.answers s = true := by
  simp only [Ctx.serves, Bool.and_eq_true] at h
  exact h.1

namespace EncodedInWindow

/-- The encoding of the operation, well formed in a context, reaches the block. -/
def Statement (i : Instr) : Prop := ∀ c : Ctx, i.wf c = true → reaches c.cfg (encode c i) = true

theorem evAddrW (b : BitVec 5) (s : Slot) : Statement (.evAddrW b s) := fun c h => reaches_address c.cfg b s _ h

theorem evAddrR (b : BitVec 5) (s : Slot) : Statement (.evAddrR b s) := fun c h => reaches_address c.cfg b s _ h

theorem evDataRx (rx : Byte) (mNack : Bool) : Statement (.evDataRx rx mNack) := fun _ _ => rfl

theorem evDataTx (rx : Byte) (mNack : Bool) : Statement (.evDataTx rx mNack) := fun _ _ => rfl

theorem evStop : Statement .evStop := fun _ _ => rfl

theorem evError : Statement .evError := fun _ _ => rfl

theorem evTick (between : List BusEvent) : Statement (.evTick between) := fun _ h => h

theorem eeWriteStart (n : Count) : Statement (.eeWriteStart n) := fun _ _ => rfl

theorem eeWriteBufferFull (n : Count) : Statement (.eeWriteBufferFull n) := fun _ _ => rfl

theorem eeWriteStop (n : Count) : Statement (.eeWriteStop n) := fun _ _ => rfl

theorem eeWriteError (n : Count) : Statement (.eeWriteError n) := fun _ _ => rfl

theorem eeReadStart (n : Count) : Statement (.eeReadStart n) := fun _ _ => rfl

theorem eeReadBufferEmpty (n : Count) : Statement (.eeReadBufferEmpty n) := fun _ _ => rfl

theorem eeReadStop (n : Count) : Statement (.eeReadStop n) := fun _ _ => rfl

theorem eeReadError (n : Count) : Statement (.eeReadError n) := fun _ _ => rfl

theorem adcWriteStart (n : Count) : Statement (.adcWriteStart n) := fun _ _ => rfl

theorem adcWriteBufferFull (n : Count) : Statement (.adcWriteBufferFull n) := fun _ _ => rfl

theorem adcWriteStop (n : Count) : Statement (.adcWriteStop n) := fun _ _ => rfl

theorem adcWriteError (n : Count) : Statement (.adcWriteError n) := fun _ _ => rfl

theorem adcReadStart (n : Count) : Statement (.adcReadStart n) := fun _ _ => rfl

theorem adcReadBufferEmpty (n : Count) : Statement (.adcReadBufferEmpty n) := fun _ _ => rfl

theorem adcReadStop (n : Count) : Statement (.adcReadStop n) := fun _ _ => rfl

theorem adcReadError (n : Count) : Statement (.adcReadError n) := fun _ _ => rfl

theorem gpiWriteStart (n : Count) : Statement (.gpiWriteStart n) := fun _ _ => rfl

theorem gpiWriteBufferFull (n : Count) : Statement (.gpiWriteBufferFull n) := fun _ _ => rfl

theorem gpiWriteStop (n : Count) : Statement (.gpiWriteStop n) := fun _ _ => rfl

theorem gpiWriteError (n : Count) : Statement (.gpiWriteError n) := fun _ _ => rfl

theorem gpiReadStart (n : Count) : Statement (.gpiReadStart n) := fun _ _ => rfl

theorem gpiReadBufferEmpty (n : Count) : Statement (.gpiReadBufferEmpty n) := fun _ _ => rfl

theorem gpiReadStop (n : Count) : Statement (.gpiReadStop n) := fun _ _ => rfl

theorem gpiReadError (n : Count) : Statement (.gpiReadError n) := fun _ _ => rfl

theorem sramWriteStart (n : Count) : Statement (.sramWriteStart n) := fun _ _ => rfl

theorem sramWriteBufferFull (n : Count) : Statement (.sramWriteBufferFull n) := fun _ _ => rfl

theorem sramWriteStop (n : Count) : Statement (.sramWriteStop n) := fun _ _ => rfl

theorem sramWriteError (n : Count) : Statement (.sramWriteError n) := fun _ _ => rfl

theorem sramReadStart (n : Count) : Statement (.sramReadStart n) := fun _ _ => rfl

theorem sramReadBufferEmpty (n : Count) : Statement (.sramReadBufferEmpty n) := fun _ _ => rfl

theorem sramReadStop (n : Count) : Statement (.sramReadStop n) := fun _ _ => rfl

theorem sramReadError (n : Count) : Statement (.sramReadError n) := fun _ _ => rfl

theorem eeWriteByte (s : Slot) (hi lo d : Byte) :
    Statement (.eeWriteByte s hi lo d) := fun c h => by
  simp only [Instr.wf, Bool.and_eq_true] at h
  exact reaches_writeFrame c s _ _ (answers_of_serves h.1)

theorem eeArmHi (s : Slot) (d : Byte) : Statement (.eeArmHi s d) := fun c h =>
  reaches_writeFrame c s _ _ (answers_of_serves h)

theorem eeArmLo (s : Slot) (d : Byte) : Statement (.eeArmLo s d) := fun c h =>
  reaches_writeFrame c s _ _ (answers_of_serves h)

theorem eeArmData (s : Slot) (d : Byte) : Statement (.eeArmData s d) := fun c h =>
  reaches_writeFrame c s _ _ (answers_of_serves h)

theorem eeCtrl (s : Slot) (d : Byte) : Statement (.eeCtrl s d) := fun c h =>
  reaches_writeFrame c s _ _ (answers_of_serves h)

theorem eeSetCursor (s : Slot) (hi lo : Byte) (fin : FrameEnd) :
    Statement (.eeSetCursor s hi lo fin) := fun c h =>
  reaches_writeFrame c s _ _ (answers_of_serves h)

theorem eeRead (s : Slot) (reqs : List Bool) : Statement (.eeRead s reqs) := fun c h => by
  simp only [Instr.wf, Bool.and_eq_true, decide_eq_true_eq] at h
  exact reaches_readFrame c s reqs (by omega) (answers_of_serves h.1)

theorem adcCmd (s : Slot) (cmd : Byte) : Statement (.adcCmd s cmd) := fun c h =>
  reaches_writeFrame c s _ _ (answers_of_serves h)

theorem adcRead (s : Slot) (reqs : List Bool) : Statement (.adcRead s reqs) := fun c h => by
  simp only [Instr.wf, Bool.and_eq_true, decide_eq_true_eq] at h
  exact reaches_readFrame c s reqs (by omega) (answers_of_serves h.1)

theorem gpiSetMask (s : Slot) (m : Byte) : Statement (.gpiSetMask s m) := fun c h =>
  reaches_writeFrame c s _ _ (answers_of_serves h)

theorem gpiRead (s : Slot) (reqs : List Bool) : Statement (.gpiRead s reqs) := fun c h => by
  simp only [Instr.wf, Bool.and_eq_true, decide_eq_true_eq] at h
  exact reaches_readFrame c s reqs (by omega) (answers_of_serves h.1)

theorem sramWrite (s : Slot) (hi lo : Byte) (ds : List Byte) :
    Statement (.sramWrite s hi lo ds) := fun c h => by
  simp only [Instr.wf, Bool.and_eq_true] at h
  exact reaches_writeFrame c s _ _ (answers_of_serves h.1)

theorem sramSetCursor (s : Slot) (hi lo : Byte) (fin : FrameEnd) :
    Statement (.sramSetCursor s hi lo fin) := fun c h =>
  reaches_writeFrame c s _ _ (answers_of_serves h)

theorem sramRead (s : Slot) (reqs : List Bool) : Statement (.sramRead s reqs) := fun c h => by
  simp only [Instr.wf, Bool.and_eq_true, decide_eq_true_eq] at h
  exact reaches_readFrame c s reqs (by omega) (answers_of_serves h.1)

end EncodedInWindow

end Sys2Proof.Laws
end

