-- ==== Sys2Proof/Tests/Slice0.lean ====
section
/-! SUPPORT. Tests on the test configuration TC of spec/95_test_vectors.md section 1: what WellFormed refuses, words
written out bit by bit from spec/30_encoding.md, one-step tests with results from the vectors and tables of
spec/95_test_vectors.md, and for each statement with hypotheses a state and operands that meet them. -/

open Sys2Proof Sys2Proof.Machine

namespace Sys2Proof.Tests

/-! ## The test configuration TC -/

/-- The region map of TC. -/
def tcRegions : List Region :=
  [⟨0x0000, 0x003F, .persist, 0x0000, .protect⟩, ⟨0x0040, 0x007F, .persist, 0x0040, .openAccess⟩,
    ⟨0x0100, 0x01FF, .program, 0x0000, .ro⟩, ⟨0x0200, 0x020F, .snapshot, 0x0000, .ro⟩]

/-- The parameters of TC. -/
def tc : Params where
  base := 0b10100
  slotDevice := #v[.eeprom, .adc, .gpi, .sram]
  registered := #v[true, true, true, true]
  timeout := 3
  tickMs := 1
  gpiPeriod := 1
  eeRegions := tcRegions
  eeFill := 0xFF
  eeWindow := 4
  weHi := 0x0080
  weLo := 0x0081
  weData := 0x0082
  eeCtrl := 0x0083
  armClear := ⟨none, none, none⟩
  adcMap := #v[0, 1, 2, 3, 4, 5, 6, 7]
  adcSeValue := true
  adcDiffPol := .setIsChanMinusPair
  adcDiffEnc := .mod256
  adcResetCmd := 0x00
  sramPage := 16
  gpiIrqLevel := true

/-- `ResetState` under TC, the next collaborator answers scripted. -/
def start (ds : List Byte) : State := { State.resetWith tc [] with draws := ds }

/-- The same with slot 1 Empty (V03). -/
def noAdc : State := { start [] with reg := #v[some .eeprom, none, some .gpi, some .sram] }

/-- A transaction open with capacity left. -/
def live (slot : Slot) (dir : Dir) (cnt rem : Count) (w : Win) (s : State) : State :=
  { s with
    eng := { phase := .exchanging, slot := slot, dir := dir, cnt := cnt, rem := rem, grant := some w }
    wd := armedWatchdog tc }

/-- A transaction open with no capacity. -/
def spent (slot : Slot) (dir : Dir) (s : State) : State :=
  { s with eng := drained .exchanging slot dir, wd := armedWatchdog tc }

/-- A device phase is called next: `eng.slot` and `eng.cnt` as the phase rows read them. -/
def called (slot : Slot) (n : Count) (s : State) : State := { s with eng := { s.eng with slot := slot, cnt := n } }

/-- An EEPROM F-EE-W of which `cnt` bytes were taken. -/
def eeTaking (cnt rem : Count) : State := live 0 .write cnt rem ⟨.eeStage, 0, 3⟩ (start [])

/-- The EEPROM's staging buffer filled. -/
def staged (hi lo d : Byte) (s : State) : State := { s with ee := { s.ee with stage := #v[hi, lo, d] } }

/-- The arm written. -/
def armed (hi lo d : Byte) (s : State) : State := { s with ee := { s.ee with arm := ⟨some hi, some lo, some d⟩ } }

/-- The state after one operation, for a test of some of its fields. -/
def one (i : Instr) (s : State) : Option State := execAll [i] s

theorem test_tc_is_admissible : tc.wf = true := by decide

/-! ## What WellFormed refuses -/

theorem test_illformed_address_write : (.evAddrW 0b10101 0 : Instr).wf (start []).ctx = false := by decide

theorem test_illformed_address_read : (.evAddrR 0b10011 0 : Instr).wf (start []).ctx = false := by decide

theorem test_illformed_data_rx_in_a_read :
    (.evDataRx 0 false : Instr).wf { (start []).ctx with dir := .read } = false := by decide

theorem test_illformed_data_tx_in_a_write : (.evDataTx 0 false : Instr).wf (start []).ctx = false := by decide

theorem test_illformed_tick_with_an_address_outside :
    (.evTick [.stop, .addr 0xA8] : Instr).wf (start []).ctx = false := by decide

theorem test_illformed_phase_of_another_device : (.adcWriteStart 0 : Instr).wf (start []).ctx = false := by decide

theorem test_illformed_phase_count : (.eeWriteStart 1 : Instr).wf (start []).ctx = false := by decide

theorem test_illformed_ee_write_byte_slot :
    (.eeWriteByte 1 0x00 0x38 0x12 : Instr).wf (start []).ctx = false := by decide

theorem test_illformed_ee_write_byte_special :
    (.eeWriteByte 0 0x00 0x83 0x12 : Instr).wf (start []).ctx = false := by decide

theorem test_illformed_eeArmHi_slot : (.eeArmHi 3 0 : Instr).wf (start []).ctx = false := by decide

theorem test_illformed_eeArmLo_slot : (.eeArmLo 3 0 : Instr).wf (start []).ctx = false := by decide

theorem test_illformed_eeArmData_slot : (.eeArmData 3 0 : Instr).wf (start []).ctx = false := by decide

theorem test_illformed_eeCtrl_slot : (.eeCtrl 3 0 : Instr).wf (start []).ctx = false := by decide

theorem test_illformed_ee_set_cursor_slot : (.eeSetCursor 2 0 0 .stop : Instr).wf (start []).ctx = false := by decide

theorem test_illformed_ee_read_slot : (.eeRead 3 [false] : Instr).wf (start []).ctx = false := by decide

theorem test_illformed_ee_read_no_request : (.eeRead 0 [] : Instr).wf (start []).ctx = false := by decide

theorem test_illformed_adc_cmd_slot : (.adcCmd 0 0xA8 : Instr).wf (start []).ctx = false := by decide

theorem test_illformed_adc_read_slot : (.adcRead 2 [false] : Instr).wf (start []).ctx = false := by decide

theorem test_illformed_adc_read_no_request : (.adcRead 1 [] : Instr).wf (start []).ctx = false := by decide

theorem test_illformed_gpi_set_mask_slot : (.gpiSetMask 1 0x0F : Instr).wf (start []).ctx = false := by decide

theorem test_illformed_gpi_read_slot : (.gpiRead 0 [false, true] : Instr).wf (start []).ctx = false := by decide

theorem test_illformed_gpi_read_one_request : (.gpiRead 2 [false] : Instr).wf (start []).ctx = false := by decide

theorem test_illformed_sram_write_slot : (.sramWrite 0 0 0 [1] : Instr).wf (start []).ctx = false := by decide

theorem test_illformed_sram_write_no_data : (.sramWrite 3 0 0 [] : Instr).wf (start []).ctx = false := by decide

theorem test_illformed_sram_set_cursor_slot :
    (.sramSetCursor 1 0 0 .restart : Instr).wf (start []).ctx = false := by decide

theorem test_illformed_sram_read_slot : (.sramRead 1 [false] : Instr).wf (start []).ctx = false := by decide

theorem test_illformed_sram_read_no_request : (.sramRead 3 [] : Instr).wf (start []).ctx = false := by decide

theorem test_params_timeout : ({ tc with timeout := 0 } : Params).wf = false := by decide

theorem test_params_gpi_period : ({ tc with gpiPeriod := 0 } : Params).wf = false := by decide

theorem test_params_page : ({ tc with sramPage := 0 } : Params).wf = false := by decide

theorem test_params_window : ({ tc with eeWindow := 0 } : Params).wf = false := by decide

theorem test_params_overlap :
    ({ tc with eeRegions := [⟨0, 5, .persist, 0, .ro⟩, ⟨5, 9, .program, 0, .ro⟩] } : Params).wf = false := by decide

theorem test_params_region_bounds :
    ({ tc with eeRegions := [⟨9, 5, .persist, 0, .ro⟩] } : Params).wf = false := by decide

theorem test_params_writable_program :
    ({ tc with eeRegions := [⟨0, 5, .program, 0, .openAccess⟩] } : Params).wf = false := by decide

theorem test_params_specials : ({ tc with eeCtrl := 0x0082 } : Params).wf = false := by decide

theorem test_params_device_twice :
    ({ tc with slotDevice := #v[.eeprom, .adc, .adc, .sram] } : Params).wf = false := by decide

/-! ## Words written out from the encodings -/

theorem test_decode_ev_addr_w : decode (start []).ctx (.event (.addr 0b10100110)) = .ok (.evAddrW 0b10100 0b11) := rfl

theorem test_decode_ev_addr_r : decode (start []).ctx (.event (.addr 0b10100101)) = .ok (.evAddrR 0b10100 0b10) := rfl

theorem test_decode_ev_data_rx :
    decode (start []).ctx (.event (.data 0b00110101 false)) = .ok (.evDataRx 0x35 false) := rfl

theorem test_decode_ev_data_tx :
    decode { (start []).ctx with dir := .read } (.event (.data 0 true)) = .ok (.evDataTx 0 true) := rfl

theorem test_decode_ev_stop : decode (start []).ctx (.event .stop) = .ok (.evStop) := rfl

theorem test_decode_ev_error : decode (start []).ctx (.event .error) = .ok (.evError) := rfl

theorem test_decode_ev_tick : decode (start []).ctx (.tick [.addr 0b10100000]) = .ok (.evTick [.addr 0xA0]) := rfl

theorem test_decode_eeWriteStart : decode (called 0 2 (start [])).ctx (.phase 0b000) = .ok (.eeWriteStart 2) := rfl

theorem test_decode_eeWriteBufferFull :
    decode (called 0 2 (start [])).ctx (.phase 0b001) = .ok (.eeWriteBufferFull 2) := rfl

theorem test_decode_eeWriteStop : decode (called 0 2 (start [])).ctx (.phase 0b010) = .ok (.eeWriteStop 2) := rfl

theorem test_decode_eeWriteError : decode (called 0 2 (start [])).ctx (.phase 0b011) = .ok (.eeWriteError 2) := rfl

theorem test_decode_eeReadStart : decode (called 0 2 (start [])).ctx (.phase 0b100) = .ok (.eeReadStart 2) := rfl

theorem test_decode_eeReadBufferEmpty :
    decode (called 0 2 (start [])).ctx (.phase 0b101) = .ok (.eeReadBufferEmpty 2) := rfl

theorem test_decode_eeReadStop : decode (called 0 2 (start [])).ctx (.phase 0b110) = .ok (.eeReadStop 2) := rfl

theorem test_decode_eeReadError : decode (called 0 2 (start [])).ctx (.phase 0b111) = .ok (.eeReadError 2) := rfl

theorem test_decode_adcWriteStart : decode (called 1 2 (start [])).ctx (.phase 0b000) = .ok (.adcWriteStart 2) := rfl

theorem test_decode_adcWriteBufferFull :
    decode (called 1 2 (start [])).ctx (.phase 0b001) = .ok (.adcWriteBufferFull 2) := rfl

theorem test_decode_adcWriteStop : decode (called 1 2 (start [])).ctx (.phase 0b010) = .ok (.adcWriteStop 2) := rfl

theorem test_decode_adcWriteError : decode (called 1 2 (start [])).ctx (.phase 0b011) = .ok (.adcWriteError 2) := rfl

theorem test_decode_adcReadStart : decode (called 1 2 (start [])).ctx (.phase 0b100) = .ok (.adcReadStart 2) := rfl

theorem test_decode_adcReadBufferEmpty :
    decode (called 1 2 (start [])).ctx (.phase 0b101) = .ok (.adcReadBufferEmpty 2) := rfl

theorem test_decode_adcReadStop : decode (called 1 2 (start [])).ctx (.phase 0b110) = .ok (.adcReadStop 2) := rfl

theorem test_decode_adcReadError : decode (called 1 2 (start [])).ctx (.phase 0b111) = .ok (.adcReadError 2) := rfl

theorem test_decode_gpiWriteStart : decode (called 2 2 (start [])).ctx (.phase 0b000) = .ok (.gpiWriteStart 2) := rfl

theorem test_decode_gpiWriteBufferFull :
    decode (called 2 2 (start [])).ctx (.phase 0b001) = .ok (.gpiWriteBufferFull 2) := rfl

theorem test_decode_gpiWriteStop : decode (called 2 2 (start [])).ctx (.phase 0b010) = .ok (.gpiWriteStop 2) := rfl

theorem test_decode_gpiWriteError : decode (called 2 2 (start [])).ctx (.phase 0b011) = .ok (.gpiWriteError 2) := rfl

theorem test_decode_gpiReadStart : decode (called 2 2 (start [])).ctx (.phase 0b100) = .ok (.gpiReadStart 2) := rfl

theorem test_decode_gpiReadBufferEmpty :
    decode (called 2 2 (start [])).ctx (.phase 0b101) = .ok (.gpiReadBufferEmpty 2) := rfl

theorem test_decode_gpiReadStop : decode (called 2 2 (start [])).ctx (.phase 0b110) = .ok (.gpiReadStop 2) := rfl

theorem test_decode_gpiReadError : decode (called 2 2 (start [])).ctx (.phase 0b111) = .ok (.gpiReadError 2) := rfl

theorem test_decode_sramWriteStart :
    decode (called 3 2 (start [])).ctx (.phase 0b000) = .ok (.sramWriteStart 2) := rfl

theorem test_decode_sramWriteBufferFull :
    decode (called 3 2 (start [])).ctx (.phase 0b001) = .ok (.sramWriteBufferFull 2) := rfl

theorem test_decode_sramWriteStop : decode (called 3 2 (start [])).ctx (.phase 0b010) = .ok (.sramWriteStop 2) := rfl

theorem test_decode_sramWriteError :
    decode (called 3 2 (start [])).ctx (.phase 0b011) = .ok (.sramWriteError 2) := rfl

theorem test_decode_sramReadStart : decode (called 3 2 (start [])).ctx (.phase 0b100) = .ok (.sramReadStart 2) := rfl

theorem test_decode_sramReadBufferEmpty :
    decode (called 3 2 (start [])).ctx (.phase 0b101) = .ok (.sramReadBufferEmpty 2) := rfl

theorem test_decode_sramReadStop : decode (called 3 2 (start [])).ctx (.phase 0b110) = .ok (.sramReadStop 2) := rfl

theorem test_decode_sramReadError : decode (called 3 2 (start [])).ctx (.phase 0b111) = .ok (.sramReadError 2) := rfl

theorem test_decode_eeWriteByte :
    decode (start []).ctx (.frame [.byte 0b10100000, .byte 0b00000000, .byte 0b00111000, .byte 0b00010010]) =
      .ok (.eeWriteByte 0 0x00 0x38 0x12) := rfl

theorem test_decode_eeArmHi :
    decode (start []).ctx (.frame [.byte 0b10100000, .byte 0b00000000, .byte 0b10000000, .byte 0b00000000]) =
      .ok (.eeArmHi 0 0x00) := rfl

theorem test_decode_eeArmLo :
    decode (start []).ctx (.frame [.byte 0b10100000, .byte 0b00000000, .byte 0b10000001, .byte 0b00111000]) =
      .ok (.eeArmLo 0 0x38) := rfl

theorem test_decode_eeArmData :
    decode (start []).ctx (.frame [.byte 0b10100000, .byte 0b00000000, .byte 0b10000010, .byte 0b00010010]) =
      .ok (.eeArmData 0 0x12) := rfl

theorem test_decode_eeCtrl :
    decode (start []).ctx (.frame [.byte 0b10100000, .byte 0b00000000, .byte 0b10000011, .byte 0b01011010]) =
      .ok (.eeCtrl 0 0x5A) := rfl

theorem test_decode_eeSetCursor :
    decode (start []).ctx (.frame [.byte 0b10100000, .byte 0b00000001, .byte 0b00000101, .stop]) =
      .ok (.eeSetCursor 0 0x01 0x05 .stop) := rfl

theorem test_decode_eeRead :
    decode (start []).ctx (.frame [.byte 0b10100001, .req, .reqNack]) = .ok (.eeRead 0 [false, true]) := rfl

theorem test_decode_adcCmd :
    decode (start []).ctx (.frame [.byte 0b10100010, .byte 0b10101000]) = .ok (.adcCmd 1 0xA8) := rfl

theorem test_decode_adcRead :
    decode (start []).ctx (.frame [.byte 0b10100011, .req, .reqNack]) = .ok (.adcRead 1 [false, true]) := rfl

theorem test_decode_gpiSetMask :
    decode (start []).ctx (.frame [.byte 0b10100100, .byte 0b00001111]) = .ok (.gpiSetMask 2 0x0F) := rfl

theorem test_decode_gpiRead :
    decode (start []).ctx (.frame [.byte 0b10100101, .req, .req, .reqNack]) =
      .ok (.gpiRead 2 [false, false, true]) := rfl

theorem test_decode_sramWrite :
    decode (start []).ctx (.frame [.byte 0b10100110, .byte 0b00000001, .byte 0b11111110, .byte 0b00010001]) =
      .ok (.sramWrite 3 0x01 0xFE [0x11]) := rfl

theorem test_decode_sramSetCursor :
    decode (start []).ctx (.frame [.byte 0b10100110, .byte 0b00000001, .byte 0b11111110, .restart]) =
      .ok (.sramSetCursor 3 0x01 0xFE .restart) := rfl

theorem test_decode_sramRead :
    decode (start []).ctx (.frame [.byte 0b10100111, .req]) = .ok (.sramRead 3 [false]) := rfl

theorem test_decode_general_call :
    decode (start []).ctx (.frame [.byte 0x00, .byte 0x06]) = .error .outsideWindow := rfl

theorem test_decode_empty_slot : decode noAdc.ctx (.frame [.byte 0xA2, .byte 0xA8]) = .error .emptySlot := rfl

theorem test_decode_short_frame : decode (start []).ctx (.frame [.byte 0xA0, .byte 0x01]) = .error .noFrame := rfl

/-- A GPI read of one byte is no row (R91), a trace may hold one (R97). -/
theorem test_decode_one_byte_gpi_read : decode (start []).ctx (.frame [.byte 0xA5, .req]) = .error .noFrame := rfl

/-! ## Items that stand for no row, and recorded traces (R96, R97) -/

/-- An item taken from the pending input and run by one step. -/
def stepItem (it : PortItem) (s : State) : Option (List Record) :=
  match step { s with inbox := [it] } with
  | .next t => some t.log
  | .fault _ => none
  | .refused _ => none

/-- Vector V03's slot: an address and a byte to an Empty slot are Nacked (R284). -/
theorem test_step_empty_slot_frame :
    stepItem (.frame [.byte 0xA2, .byte 0xA8]) noAdc = some [.ack .nack, .ack .nack] := by decide

theorem test_step_empty_slot_phase : stepItem (.phase 0b000) (called 1 0 noAdc) = some [] := by decide

/-- R88: a second data byte of an ADC write is refused with Nack. -/
theorem test_step_overlong_frame :
    (stepItem (.frame [.byte 0xA2, .byte 0xA8, .byte 0x55]) (start [])).map acksOf =
      some [.ack, .ack, .nack] := by decide

/-- Vector V02: a transaction to 0x58 produces no event, its data and its stop included. -/
theorem test_step_ignored_frame : stepItem (.frame [.byte 0xB0, .byte 0x11, .stop]) (eeTaking 2 1) = some [] := by decide

/-- R96: the general call and a 10-bit prefix are not answered, whatever the base address. -/
theorem test_reserved_addresses :
    (∀ slot : Slot, ({ tc with base := 0b11110 } : Params).answers slot = false) ∧
      (∀ slot : Slot, ({ tc with base := 0 } : Params).answers slot = (slot != 0)) ∧
      ∀ slot : Slot, tc.answers slot = true := by decide

/-- Vector V01, `11 P E`: a byte that no start condition came before is a data event, in the trace and item by item. -/
theorem test_v01_byte_before_any_address :
    cutTrace (start []).ctx [.byte 0x11, .stop, .error] =
        [.event (.data 0x11 false), .event .stop, .event .error] ∧
      (busEvents (tokenEvents tc .data [.byte 0x11, .stop, .error]) (start [])).log = [.ack .nack, .tx 0xFF] :=
  ⟨rfl, by decide⟩

/-- R11: after a stop an address byte needs its own start condition; 0xA2 after `P` alone is a data event. -/
theorem test_trace_address_needs_a_start :
    tokenEvents tc .data [.start, .byte 0xA0, .stop, .byte 0xA2, .start, .byte 0xA4] =
      [.addr 0xA0, .stop, .data 0xA2 false, .addr 0xA4] := by decide

/-- R7 and R25: a window of 0 or of 513 bytes is not admitted, one of 512 is. -/
theorem test_window_bounds :
    ({ tc with eeWindow := 0 } : Params).wf = false ∧ ({ tc with eeWindow := 513 } : Params).wf = false ∧
      ({ tc with eeWindow := 512 } : Params).wf = true := by decide

/-- R322: a device in two slots, or an SRAM list that names a byte twice, makes no `ResetState`. -/
theorem test_reset_state_premises :
    ({ tc with slotDevice := #v[.adc, .adc, .gpi, .sram] } : Params).wf = false ∧
      ({ tc with timeout := 0 } : Params).wf = false ∧ Memory.wf [(3, 0x01), (3, 0x02)] = false := by decide

/-- R96: with capacity left and no grant that holds the byte, which R26 excludes, a byte is beyond the grant. -/
theorem test_byte_beyond_the_grant :
    (one (.evDataRx 0x11 false) { start [] with eng := { (live 3 .write 0 1 ⟨.sram, 0, 1⟩ (start [])).eng with
        grant := none } }).map (fun t => (t.log, t.fault)) = some ([.ack .nack], none) ∧
      (one (.evDataTx 0 false) { start [] with eng := { (live 3 .read 0 1 ⟨.sram, 0, 1⟩ (start [])).eng with
        grant := none } }).map (fun t => (t.log, t.fault)) = some ([.tx 0xFF], none) := by decide

/-- R98's random read cut at its `Sr` and `P` (R97). -/
theorem test_cut_random_read :
    cutTrace (start []).ctx
        [.start, .byte 0xA0, .byte 0x00, .byte 0x38, .restart, .byte 0xA1, .req, .reqNack, .stop] =
      [.frame [.byte 0xA0, .byte 0x00, .byte 0x38, .restart], .frame [.byte 0xA1, .req, .reqNack],
        .event .stop] := rfl

theorem test_table_word_phase : decodeTableWord 8 0b101 = some (.eeReadBufferEmpty 0) := by decide

theorem test_table_word_address : decodeTableWord 8 0xA1 = some (.evAddrR 0b10100 0) := by decide

/-- The first step after reset runs the phase a table word names. -/
theorem test_first_step_runs_the_word :
    (match step (State.reset.withFetchWord 8 0b010) with
      | .next t => t.log
      | .fault _ => []
      | .refused _ => []) = [.call 0 ⟨.write, .stop⟩ 0] := by decide

/-! ## One step of each operation -/

theorem test_ev_addr_w :
    (one (.evAddrW 0b10100 0) (start [])).map (fun t => (t.log, t.eng.rem, t.wd.count)) =
      some ([.call 0 ⟨.write, .start⟩ 0, .ack .ack], 3, 3) := by decide

theorem test_ev_addr_w_restart_delivers_stop_2 :
    (one (.evAddrW 0b10100 1) (staged 0x00 0x38 0 (eeTaking 2 1))).map
        (fun t => (t.log, t.ee.cursor, t.eng.slot)) =
      some ([.call 0 ⟨.write, .stop⟩ 2, .call 1 ⟨.write, .start⟩ 0, .ack .ack], 0x0038, 1) := by decide

theorem test_ev_addr_r_converts :
    (one (.evAddrR 0b10100 1) (start [0x30, 0x10])).map (fun t => (t.log, t.adc.res)) =
      some ([.call 1 ⟨.read, .start⟩ 0, .ack .ack], 0xE0) := by decide

theorem test_ev_addr_r_empty :
    (one (.evAddrR 0b10100 1) noAdc).map (fun t => (t.log, t.eng.phase)) =
      some ([.ack .nack], .addressed) := by decide

theorem test_ev_data_rx_idle :
    (one (.evDataRx 0x11 false) (start [])).map (fun t => (t.log, t.wd)) =
      some ([.ack .nack, .tx 0xFF], offWatchdog) := by decide

theorem test_ev_data_rx_third_ee_byte :
    (one (.evDataRx 0x12 false) (staged 0x00 0x38 0 (eeTaking 2 1))).map
        (fun t => (t.log, t.ee.stage[2], t.eng.cnt)) =
      some ([.call 0 ⟨.write, .boundary⟩ 3, .ack .nack], 0x12, 0) := by decide

theorem test_ev_data_tx_fill_after_nack :
    (one (.evDataTx 0 true) (live 1 .read 1 0 ⟨.adcRes, 0, 1⟩ (start []))).map (fun t => (t.log, t.eng.cnt)) =
      some ([.tx 0xFF], 1) := by decide

theorem test_ev_data_tx_requeries :
    (one (.evDataTx 0 false) (live 1 .read 1 0 ⟨.adcRes, 0, 1⟩ (start []))).map (fun t => (t.log, t.eng.cnt)) =
      some ([.call 1 ⟨.read, .boundary⟩ 1, .tx 0xFF], 0) := by decide

theorem test_ev_stop_sets_the_cursor :
    (one (.evStop) (staged 0x00 0x38 0 (eeTaking 2 1))).map (fun t => (t.log, t.ee.cursor, t.eng.phase)) =
      some ([.call 0 ⟨.write, .stop⟩ 2], 0x0038, .idle) := by decide

theorem test_ev_error_sets_no_cursor :
    (one (.evError) (staged 0x00 0x38 0 (eeTaking 2 1))).map (fun t => (t.log, t.ee.cursor, t.wd.enabled)) =
      some ([.call 0 ⟨.write, .error⟩ 2], 0, false) := by decide

theorem test_ev_tick_expires :
    (one (.evTick []) { eeTaking 2 1 with wd := { enabled := true, count := 1 }, draws := [0] }).map
        (fun t => (t.log, t.eng.phase)) =
      some ([.periphRestart], .idle) := by decide

theorem test_ev_tick_latches :
    (one (.evTick []) (start [0x01])).map (fun t => (t.gpi.cur, t.gpi.trans, t.gpi.irq, t.log)) =
      some (0x01, 0x01, false, []) := by decide

theorem test_eeWriteStart :
    (one (.eeWriteStart 0) (start [])).map (fun t => t.ans) =
      some ({ grant := some ⟨.eeStage, 0, 3⟩, cap := 3, ack := .ack } : Answer) := by decide

theorem test_eeWriteBufferFull_open :
    (one (.eeWriteBufferFull 3) (staged 0x00 0x40 0x5A (start []))).map
        (fun t => (t.log, t.ee.cursor, t.ans.ack)) =
      some ([.call 0 ⟨.write, .boundary⟩ 3, .persistWrite 0x0040 0x5A], 0x0040, .ack) := by decide

theorem test_eeWriteBufferFull_unmapped :
    (one (.eeWriteBufferFull 3) (staged 0x80 0x00 0x12 (armed 0x80 0x00 0x12 (start [])))).map
        (fun t => (t.log, t.ee.arm, t.ans.ack)) =
      some ([.call 0 ⟨.write, .boundary⟩ 3], ⟨none, none, none⟩, .nack) := by decide

theorem test_eeWriteStop_two :
    (one (.eeWriteStop 2) (staged 0x01 0x05 0 (start []))).map (fun t => t.ee.cursor) = some 0x0105 := by decide

theorem test_eeWriteStop_one :
    (one (.eeWriteStop 1) (staged 0x01 0x05 0 (start []))).map (fun t => t.ee.cursor) = some 0x0000 := by decide

theorem test_eeWriteError :
    (one (.eeWriteError 2) (staged 0x00 0x20 0 (start []))).map (fun t => t.ee.cursor) = some 0x0000 := by decide

theorem test_eeReadStart_wraps :
    (one (.eeReadStart 0) { start [0x5A, 0x5B] with ee := { (start []).ee with cursor := 0xFFFE } }).map
        (fun t => (t.ee.win, t.asked)) =
      some ([0xFF, 0xFF, 0x5A, 0x5B], [.persistRead 0, .persistRead 1]) := by decide

theorem test_eeReadBufferEmpty :
    (one (.eeReadBufferEmpty 4) { start [0xA5, 0xA6] with ee := { (start []).ee with cursor := 0x003E } }).map
        (fun t => (t.ee.cursor, t.asked)) =
      some (0x0042, [.persistRead 0x42, .persistRead 0x43, .persistRead 0x44, .persistRead 0x45]) := by decide

theorem test_eeReadStop :
    (one (.eeReadStop 3) { start [] with ee := { (start []).ee with cursor := 0xFFFE } }).map
        (fun t => t.ee.cursor) =
      some 0x0001 := by decide

theorem test_eeReadError :
    (one (.eeReadError 1) { start [] with ee := { (start []).ee with cursor := 0x0038 } }).map
        (fun t => t.ee.cursor) =
      some 0x0039 := by decide

theorem test_adcWriteStart :
    (one (.adcWriteStart 0) (start [])).map (fun t => t.ans) =
      some ({ grant := some ⟨.adcStage, 0, 1⟩, cap := 1, ack := .ack } : Answer) := by decide

theorem test_adcWriteBufferFull :
    (one (.adcWriteBufferFull 1) { start [] with adc := { (start []).adc with stage := 0xAF } }).map
        (fun t => (t.adc.se, t.adc.chan, t.adc.ref)) =
      some (true, 2, 1) := by decide

theorem test_adcWriteStop :
    (one (.adcWriteStop 0) (called 1 0 (start []))).map (fun t => (t.log, t.adc)) =
      some ([.call 1 ⟨.write, .stop⟩ 0], (start []).adc) := by decide

theorem test_adcWriteError :
    (one (.adcWriteError 0) (called 1 0 (start []))).map (fun t => (t.log, t.adc)) =
      some ([.call 1 ⟨.write, .error⟩ 0], (start []).adc) := by decide

theorem test_adcReadStart_pair :
    (one (.adcReadStart 0) { start [0x40, 0x10] with adc := { (start []).adc with chan := 5, ref := 1 } }).map
        (fun t => (t.adc.res, t.asked)) =
      some (0x30, [.adcSample 5 1, .adcSample 1 1]) := by decide

theorem test_adcReadStart_low_bit_clear :
    (one (.adcReadStart 0) (start [0x30, 0x10])).map (fun t => t.adc.res) = some 0xE0 := by decide

theorem test_adcReadBufferEmpty :
    (one (.adcReadBufferEmpty 1) (start [])).map (fun t => (t.ans, t.asked)) =
      some (Answer.refuse .ack, []) := by decide

theorem test_adcReadStop :
    (one (.adcReadStop 1) (called 1 1 (start []))).map (fun t => (t.log, t.adc)) =
      some ([.call 1 ⟨.read, .stop⟩ 1], (start []).adc) := by decide

theorem test_adcReadError :
    (one (.adcReadError 1) (called 1 1 (start []))).map (fun t => (t.log, t.adc)) =
      some ([.call 1 ⟨.read, .error⟩ 1], (start []).adc) := by decide

theorem test_gpiWriteStart_drops_the_line :
    (one (.gpiWriteStart 0) { start [] with gpi := { (start []).gpi with armed := true, cur := 0x01, trans := 0x01, mask := 0x01 } }).map
        (fun t => (t.log, t.gpi.armed)) =
      some ([.call 0 ⟨.write, .start⟩ 0, .irq false], false) := by decide

theorem test_gpiWriteBufferFull :
    (one (.gpiWriteBufferFull 1) { start [] with gpi := { (start []).gpi with stage := 0x0F, trans := 0x05 } }).map
        (fun t => (t.gpi.mask, t.gpi.trans)) =
      some (0x0F, 0x05) := by decide

theorem test_gpiWriteStop_raises_the_line :
    (one (.gpiWriteStop 0) { start [0x01] with gpi := { (start []).gpi with cur := 0x01, trans := 0x01, mask := 0x01 } }).map
        (fun t => (t.log, t.gpi.armed)) =
      some ([.call 0 ⟨.write, .stop⟩ 0, .irq true], true) := by decide

theorem test_gpiWriteError :
    (one (.gpiWriteError 0) { start [0x02] with gpi := { (start []).gpi with mask := 0x03 } }).map
        (fun t => (t.gpi.armed, t.gpi.trans, t.gpi.cur)) =
      some (true, 0x02, 0x02) := by decide

theorem test_gpiReadStart :
    (one (.gpiReadStart 0) { start [0x04] with gpi := { (start []).gpi with armed := true, cur := 0x05, trans := 0x04, mask := 0x0F } }).map
        (fun t => (t.gpi.rbuf, t.gpi.trans, t.log)) =
      some (#v[0x04, 0x05], 0, [.call 0 ⟨.read, .start⟩ 0, .irq false]) := by decide

theorem test_gpiReadBufferEmpty :
    (one (.gpiReadBufferEmpty 2) (start [])).map (fun t => (t.ans, t.asked)) =
      some (Answer.refuse .ack, []) := by decide

theorem test_gpiReadStop :
    (one (.gpiReadStop 2) { start [0x07] with gpi := { (start []).gpi with cur := 0x04 } }).map
        (fun t => (t.gpi.armed, t.gpi.prev, t.gpi.trans)) =
      some (true, 0x04, 0x03) := by decide

theorem test_gpiReadError :
    (one (.gpiReadError 2) { start [0x07] with gpi := { (start []).gpi with cur := 0x04 } }).map
        (fun t => (t.gpi.armed, t.gpi.prev, t.gpi.trans)) =
      some (true, 0x04, 0x03) := by decide

theorem test_sramWriteStart :
    (one (.sramWriteStart 0) { start [] with sram := { (start []).sram with wphase := .dataPhase } }).map
        (fun t => (t.sram.wphase, t.ans)) =
      some (.addrPhase, ({ grant := some ⟨.sramStage, 0, 2⟩, cap := 2, ack := .ack } : Answer)) := by decide

theorem test_sramWriteBufferFull_address :
    (one (.sramWriteBufferFull 2) { start [] with sram := { (start []).sram with stage := #v[0xFF, 0x10] } }).map
        (fun t => (t.sram.cursor, t.ans)) =
      some (272, ({ grant := some ⟨.sram, 272, 240⟩, cap := 240, ack := .ack } : Answer)) := by decide

theorem test_sramWriteBufferFull_top :
    (one (.sramWriteBufferFull 1) { start [] with sram := { (start []).sram with wphase := .dataPhase, cursor := 511 } }).map
        (fun t => (t.sram.cursor, t.ans)) =
      some (0, ({ grant := some ⟨.sram, 0, 512⟩, cap := 512, ack := .ack } : Answer)) := by decide

theorem test_sramWriteStop_address :
    (one (.sramWriteStop 1) { start [] with sram := { (start []).sram with cursor := 7 } }).map
        (fun t => t.sram.cursor) =
      some 7 := by decide

theorem test_sramWriteStop_data :
    (one (.sramWriteStop 2) { start [] with sram := { (start []).sram with wphase := .dataPhase, cursor := 511 } }).map
        (fun t => t.sram.cursor) =
      some 1 := by decide

theorem test_sramWriteError :
    (one (.sramWriteError 1) { start [] with sram := { (start []).sram with wphase := .dataPhase, cursor := 510 } }).map
        (fun t => t.sram.cursor) =
      some 511 := by decide

theorem test_sramReadStart_top :
    (one (.sramReadStart 0) { start [] with sram := { (start []).sram with cursor := 510 } }).map
        (fun t => t.ans) =
      some ({ grant := some ⟨.sram, 510, 2⟩, cap := 2, ack := .ack } : Answer) := by decide

theorem test_sramReadStart_page :
    (one (.sramReadStart 0) (start [])).map (fun t => t.ans) =
      some ({ grant := some ⟨.sram, 0, 16⟩, cap := 16, ack := .ack } : Answer) := by decide

theorem test_sramReadBufferEmpty :
    (one (.sramReadBufferEmpty 2) { start [] with sram := { (start []).sram with cursor := 510 } }).map
        (fun t => (t.sram.cursor, t.ans)) =
      some (0, ({ grant := some ⟨.sram, 0, 16⟩, cap := 16, ack := .ack } : Answer)) := by decide

theorem test_sramReadStop :
    (one (.sramReadStop 1) { start [] with sram := { (start []).sram with cursor := 511 } }).map
        (fun t => t.sram.cursor) =
      some 0 := by decide

theorem test_sramReadError : (one (.sramReadError 1) (start [])).map (fun t => t.sram.cursor) = some 1 := by decide

theorem test_eeWriteByte_armed :
    (one (.eeWriteByte 0 0x00 0x38 0x12) (armed 0x00 0x38 0x12 (start []))).map
        (fun t => (persistWrites t.log, acksOf t.log, t.ee.arm)) =
      some ([(0x0038, 0x12)], [.ack, .ack, .ack, .ack], ⟨none, none, none⟩) := by decide

theorem test_eeWriteByte_other_data :
    (one (.eeWriteByte 0 0x00 0x38 0x13) (armed 0x00 0x38 0x12 (start []))).map
        (fun t => (persistWrites t.log, acksOf t.log, t.ee.arm)) =
      some ([], [.ack, .ack, .ack, .nack], ⟨none, none, none⟩) := by decide

theorem test_eeArmHi :
    (one (.eeArmHi 0 0x00) (start [])).map (fun t => t.ee.arm) = some ⟨some 0x00, none, none⟩ := by decide

theorem test_eeArmLo :
    (one (.eeArmLo 0 0x38) (start [])).map (fun t => t.ee.arm) = some ⟨none, some 0x38, none⟩ := by decide

theorem test_eeArmData :
    (one (.eeArmData 0 0x12) (start [])).map (fun t => t.ee.arm) = some ⟨none, none, some 0x12⟩ := by decide

theorem test_eeCtrl :
    (one (.eeCtrl 0 0x5A) (armed 1 2 3 (start []))).map (fun t => (t.ee.arm, t.log.drop 4)) =
      some (⟨some 1, some 2, some 3⟩, [.call 0 ⟨.write, .boundary⟩ 3, .superviseCtrl 0x5A, .ack .ack]) := by decide

theorem test_eeSetCursor_stop :
    (one (.eeSetCursor 0 0x01 0x05 .stop) (start [])).map (fun t => (t.ee.cursor, t.eng.phase)) =
      some (0x0105, .idle) := by decide

theorem test_eeSetCursor_restart :
    (one (.eeSetCursor 0 0x01 0x05 .restart) (start [])).map (fun t => (t.ee.cursor, t.eng.cnt)) =
      some (0x0000, 2) := by decide

theorem test_eeRead :
    (one (.eeRead 0 [false, false, true]) { start [0x43, 0x44, 0x45, 0x46] with ee := { (start []).ee with cursor := 0x0203 } }).map
        (fun t => (txBytes t.log, t.asked.head?)) =
      some ([0x43, 0x44, 0xFF], some (.regSnap 3)) := by decide

theorem test_adcCmd :
    (one (.adcCmd 1 0x58) (start [])).map (fun t => (t.adc.se, t.adc.chan, t.adc.ref, t.asked)) =
      some (false, 5, 1, []) := by decide

theorem test_adcRead :
    (one (.adcRead 1 [false, false, true]) (start [0, 0])).map (fun t => callsOf t.log) =
      some [(1, ⟨.read, .start⟩, 0), (1, ⟨.read, .boundary⟩, 1), (1, ⟨.read, .boundary⟩, 0)] := by decide

theorem test_gpiSetMask :
    (one (.gpiSetMask 2 0x0F) (start [])).map (fun t => (t.gpi.mask, acksOf t.log, t.asked)) =
      some (0x0F, [.ack, .ack], []) := by decide

theorem test_gpiRead :
    (one (.gpiRead 2 [false, false, true]) { start [0x02] with gpi := { (start []).gpi with armed := true, trans := 0x00, mask := 0x01 } }).map
        (fun t => (txBytes t.log, t.gpi.trans)) =
      some ([0x02, 0x02, 0xFF], 0) := by decide

theorem test_sramWrite_wraps :
    (one (.sramWrite 3 0x01 0xFE [0x11, 0x22, 0x33, 0x44]) (start [])).map (fun t => (t.sram.mem, t.eng.cnt)) =
      some ([(0, 0x33), (1, 0x44), (510, 0x11), (511, 0x22)], 2) := by decide

theorem test_sramSetCursor :
    (one (.sramSetCursor 3 0xFF 0x10 .stop) (start [])).map (fun t => t.sram.cursor) = some 272 := by decide

theorem test_sramRead :
    (one (.sramRead 3 [false, false, false, true]) { start [] with sram := { (start []).sram with cursor := 510, mem := [(0, 0x33), (510, 0x11), (511, 0x22)] } }).map
        (fun t => txBytes t.log) =
      some [0x11, 0x22, 0x33, 0xFF] := by decide

/-! ## Hypotheses met

Each theorem shows states and operands that meet the hypotheses of the statement it is named after, one part a clause,
at the ends of the ranges. -/

theorem test_witness_WrittenOutWordsDecode :
    (start []).ctx.cfg.base = 0b10100 ∧
      (start []).ctx.reg = #v[some .eeprom, some .adc, some .gpi, some .sram] ∧
      tc.weHi = 0x0080 ∧ tc.weLo = 0x0081 ∧ tc.weData = 0x0082 ∧ tc.eeCtrl = 0x0083 ∧
      (start []).ctx.slot = 0 ∧ (called 2 0 (start [])).ctx.slot = 2 := by decide

theorem test_witness_DecodeOfEncodeIsTheOperation :
    tc.specialsApart = true ∧
      (Instr.eeWriteByte 0 0x00 0x7F 0xFF).wf (start []).ctx = true ∧
      (Instr.gpiRead 2 [false, true]).wf (start []).ctx = true ∧
      (Instr.sramWrite 3 0xFF 0xFF [0x00]).wf (start []).ctx = true ∧
      (Instr.sramReadError 0xFFFF).wf (called 3 0xFFFF (start [])).ctx = true := by decide

theorem test_witness_EncodeOfDecodeIsTheItem :
    decode (start []).ctx (.frame [.byte 0xA0, .byte 0x00, .byte 0x80, .byte 0x07]) = .ok (.eeArmHi 0 0x07) := rfl

theorem test_witness_StepRunsTheDecodedOperation :
    let s := { start [] with inbox := [.event .stop] };
    s.fault = none ∧ s.inbox = .event .stop :: [] ∧ decode s.ctx (.event .stop) = .ok .evStop := ⟨rfl, rfl, rfl⟩

theorem test_witness_StepWithoutAnOperation :
    (({ start [] with fault := some .grantMalformed } : State).fault = some .grantMalformed ∧
        (start []).fault = none ∧ (start []).inbox = []) ∧
      (let s := { start [] with inbox := [.frame [.byte 0xA2, .byte 0xA8, .byte 0x55]] };
      s.fault = none ∧ s.inbox = .frame [.byte 0xA2, .byte 0xA8, .byte 0x55] :: [] ∧
        decode s.ctx (.frame [.byte 0xA2, .byte 0xA8, .byte 0x55]) = .error .noFrame) ∧
      (called 1 0 noAdc).deviceAt (called 1 0 noAdc).eng.slot = none ∧
      (start []).cfg.selects (windowOf 0xA8) (slotOf 0xA8) = false ∧
      (start []).cfg.selects (windowOf 0x9F) (slotOf 0x9F) = false :=
  ⟨by decide, ⟨rfl, rfl, rfl⟩, by decide⟩

theorem test_witness_ResetLeavesTheStatedValues :
    (0 < 512 ∧ 511 < 512 : Prop) := by decide

theorem test_witness_EveryResetStateMeetsTheInvariant :
    ResetState (State.resetWith tc [(0, 0x01), (511, 0xFF)]) := ⟨tc, _, by decide, by decide, rfl⟩

theorem test_witness_EveryStepKeepsTheInvariant :
    let s := { eeTaking 2 1 with inbox := [.tick [.data 0x12 false]], draws := [0x01] };
    inv s = true ∧ ∃ t, step s = .next t := ⟨by decide, _, rfl⟩

theorem test_witness_StepsAppendToTheLogAndKeepTheRegistry :
    ∃ t, step { start [] with inbox := [.event (.addr 0xA0)] } = .next t := ⟨_, rfl⟩

theorem test_witness_AddressMatchOpensTheTransaction :
    (start []).deviceAt 0 = some .eeprom ∧ (start []).cfg.answers 0 = true ∧ (eeTaking 2 1).cfg.answers 3 = true ∧
      (eeTaking 2 1).deviceAt 3 = some .sram := by decide

theorem test_witness_AddressOfAnEmptySlotIsNacked :
    noAdc.deviceAt 1 = none ∧ noAdc.cfg.answers 1 = true := by decide

theorem test_witness_RestartDeliversStopThenStart :
    (eeTaking 2 1).deviceAt (eeTaking 2 1).eng.slot = some .eeprom ∧
      (eeTaking 2 1).deviceAt 1 = some .adc ∧
      (eeTaking 2 1).cfg.answers 1 = true ∧ (eeTaking 3 0).eng.cnt ≠ 0 ∧ (eeTaking 2 1).eng.phase ≠ .idle ∧ (eeTaking 2 1).eng.cnt ≠ 0 ∧
      (start []).deviceAt (start []).eng.slot = some .eeprom ∧ (start []).eng.phase = .idle := by decide

theorem test_witness_AddressAckTellsARegisteredSlot :
    (start []).cfg.answers 0 = true ∧ noAdc.cfg.answers 1 = true := by decide

theorem test_witness_AddressOutsideTheWindowChangesNothing :
    (0b10011 : BitVec 5) ≠ (start []).cfg.base ∧ (0b10101 : BitVec 5) ≠ (start []).cfg.base := by decide

theorem test_witness_StopAndErrorEndTheTransaction :
    (start []).eng.phase = .idle ∧
      (spent 1 .write noAdc).eng.phase ≠ .idle ∧
      (spent 1 .write noAdc).deviceAt (spent 1 .write noAdc).eng.slot = none ∧
      (eeTaking 2 1).eng.phase ≠ .idle ∧ (eeTaking 2 1).deviceAt (eeTaking 2 1).eng.slot = some .eeprom := by decide

theorem test_witness_DataDirectionIsTheTransactions :
    (inv (eeTaking 2 1) = true ∧ (eeTaking 2 1).eng.phase ≠ .idle ∧ (eeTaking 2 1).eng.dir = .write ∧
        (eeTaking 2 1).eng.grant = some ⟨.eeStage, 0, 3⟩ ∧ (eeTaking 2 1).eng.rem ≠ 0) ∧
      (let s := live 3 .read 1 1 ⟨.sram, 510, 2⟩ (start []);
      inv s = true ∧ s.eng.phase ≠ .idle ∧ s.eng.dir = .read ∧ s.eng.grant = some ⟨.sram, 510, 2⟩ ∧ s.eng.rem ≠ 0) := by
  decide

theorem test_witness_DataWhileIdleIsRefused :
    (start []).eng.phase = .idle := by decide

theorem test_witness_WriteDataByte :
    (let s := spent 0 .write (start []);
      s.eng.phase ≠ .idle ∧ s.eng.dir = .write ∧ grantInv s = true ∧ s.eng.rem = 0) ∧
      (let s := eeTaking 1 2;
      s.eng.phase ≠ .idle ∧ s.eng.dir = .write ∧ grantInv s = true ∧ s.eng.grant = some ⟨.eeStage, 0, 3⟩ ∧
        s.eng.rem ≠ 0 ∧ s.eng.rem ≠ 1) ∧
      (let s := live 3 .write 1 1 ⟨.sram, 510, 2⟩ (start []);
      s.eng.phase ≠ .idle ∧ s.eng.dir = .write ∧ grantInv s = true ∧ s.eng.grant = some ⟨.sram, 510, 2⟩ ∧
        s.eng.rem = 1) := by decide

theorem test_witness_WriteDataByteStoresOneSramByte :
    let s := live 3 .write 1 1 ⟨.sram, 510, 2⟩ (start []);
    s.eng.phase ≠ .idle ∧ s.eng.dir = .write ∧ grantInv s = true ∧ Memory.wf s.sram.mem = true ∧ 510 + 1 < 512 :=
  by decide

theorem test_witness_ReadDataByte :
    (let s := live 1 .read 1 0 ⟨.adcRes, 0, 1⟩ (start []);
      s.eng.phase ≠ .idle ∧ s.eng.dir = .read ∧ grantInv s = true ∧ s.ee.win.length = s.cfg.eeWindow.toNat ∧
        s.eng.cnt ≠ 0 ∧ s.deviceAt s.eng.slot = some .adc ∧ s.eng.rem = 0 ∧
        (handler .adc ⟨.read, .boundary⟩ s.eng.cnt s).1.cap = 0) ∧
      (let s := live 3 .read 1 1 ⟨.sram, 510, 2⟩ (start []);
      s.eng.phase ≠ .idle ∧ s.eng.dir = .read ∧ grantInv s = true ∧ s.ee.win.length = s.cfg.eeWindow.toNat ∧
        s.eng.grant = some ⟨.sram, 510, 2⟩ ∧ s.eng.rem ≠ 0) ∧
      (let s := live 0 .read 4 0 ⟨.eeWin, 0, 4⟩ (start []);
      s.eng.phase ≠ .idle ∧ s.eng.dir = .read ∧ grantInv s = true ∧ s.ee.win.length = s.cfg.eeWindow.toNat ∧
        s.deviceAt s.eng.slot = some .eeprom ∧ s.eng.rem = 0 ∧
        (handler .eeprom ⟨.read, .boundary⟩ s.eng.cnt s).1.cap ≠ 0) ∧
      (let s := spent 1 .read noAdc;
      s.eng.phase ≠ .idle ∧ s.eng.dir = .read ∧ grantInv s = true ∧ s.ee.win.length = s.cfg.eeWindow.toNat ∧
        s.deviceAt s.eng.slot = none ∧ s.eng.rem = 0) := by decide

theorem test_witness_EmptySlotRefusesEveryByte :
    noAdc.deviceAt 1 = none ∧ noAdc.cfg.answers 1 = true := by decide

theorem test_witness_EventsLeaveOtherDevicesAlone :
    grantInv (eeTaking 2 1) = true ∧
      (eeTaking 2 1).deviceAt (eeTaking 2 1).eng.slot ≠ some .gpi ∧
      (eeTaking 2 1).deviceAt (slotOf 0xA7) ≠ some .gpi := by decide

theorem test_witness_TickCountsDownAndExpires :
    (start []).fault = none ∧ (start []).wd.enabled = false ∧ (eeTaking 2 1).fault = none ∧
      (eeTaking 2 1).wd.enabled = true ∧ 2 ≤ (eeTaking 2 1).wd.count ∧
      ({ eeTaking 2 1 with wd := { enabled := true, count := 1 } } : State).wd.count = 1 := by decide

theorem test_witness_TickSamplesThePinsAtItsPeriod :
    ((eeTaking 2 1).fault = none ∧ (eeTaking 2 1).gpiCount + 1 = (eeTaking 2 1).cfg.gpiPeriod ∧
        (eeTaking 2 1).deviceAt 2 = some .gpi) ∧
      (let s := { start [] with reg := #v[none, none, none, none] };
      s.fault = none ∧ s.gpiCount + 1 = s.cfg.gpiPeriod ∧ ∀ slot, s.deviceAt slot ≠ some .gpi) ∧
      (let s := { start [] with cfg := { tc with gpiPeriod := 2 } };
      s.fault = none ∧ s.gpiCount + 1 ≠ s.cfg.gpiPeriod) := by decide

theorem test_witness_TickTakesEventsBetweenItsSections :
    inv (eeTaking 2 1) = true := by decide

theorem test_witness_SilenceRestartsThePeripheralOnce :
    inv (eeTaking 2 1) = true ∧ (eeTaking 2 1).eng.phase ≠ .idle ∧
      (eeTaking 2 1).wd.count = (eeTaking 2 1).cfg.timeout ∧
      2 < (eeTaking 2 1).cfg.timeout ∧ (eeTaking 2 1).cfg.timeout ≤ 3 := by decide

theorem test_witness_EepromWriteSideHandlers :
    2 ≤ (2 : Count).toNat ∧ (1 : Count).toNat < 2 := by decide

theorem test_witness_EepromWriteBufferFullAppliesThePolicy :
    let a (hi lo : Byte) : U16 := (staged hi lo 0x12 (start [])).ee.stagedAddr;
    a 0x00 0x80 = tc.weHi ∧ a 0x00 0x81 = tc.weLo ∧ a 0x00 0x82 = tc.weData ∧ a 0x00 0x83 = tc.eeCtrl ∧
      (tc.isSpecial (a 0x00 0x40) = false ∧
        regionAt tc (a 0x00 0x40) = some ⟨0x0040, 0x007F, .persist, 0x0040, .openAccess⟩) ∧
      (tc.isSpecial (a 0x00 0x3F) = false ∧
        regionAt tc (a 0x00 0x3F) = some ⟨0x0000, 0x003F, .persist, 0x0000, .protect⟩ ∧
        (armed 0x00 0x3F 0x12 (start [])).ee.arm =
          ⟨some ((a 0x00 0x3F).extractLsb' 8 8), some ((a 0x00 0x3F).extractLsb' 0 8), some 0x12⟩) ∧
      (tc.isSpecial (a 0x00 0x84) = false ∧ regionAt tc (a 0x00 0x84) = none) := by decide

theorem test_witness_EepromReadSideHandlers :
    (start []).cfg.eeWindow ≠ 0 := by decide

theorem test_witness_WindowBytesComeFromTheRegionMap :
    0 < 4 ∧ 3 < 4 ∧ regionsWf tc.eeRegions = true ∧ regionAt tc 0x0080 = none ∧
      regionAt tc 0x007F = some ⟨0x0040, 0x007F, .persist, 0x0040, .openAccess⟩ ∧
      regionAt tc 0x0100 = some ⟨0x0100, 0x01FF, .program, 0x0000, .ro⟩ ∧
      regionAt tc 0x020F = some ⟨0x0200, 0x020F, .snapshot, 0x0000, .ro⟩ ∧
      regionAt { tc with eeRegions := [⟨0, 5, .fillr, 0, .ro⟩] } 0x0005 = some ⟨0, 5, .fillr, 0, .ro⟩ := by decide

theorem test_witness_EeWriteByteFrame :
    (start []).fault = none ∧ (start []).cfg.answers 0 = true ∧
      (start []).deviceAt 0 = some .eeprom ∧
      (start []).cfg.isSpecial ((0x00 : Byte) ++ (0x7F : Byte)) = false ∧
      (start []).cfg.isSpecial ((0x00 : Byte) ++ (0x84 : Byte)) = false := by decide

theorem test_witness_EeRegisterFrames :
    (start []).fault = none ∧ (start []).cfg.answers 0 = true ∧
      (start []).deviceAt 0 = some .eeprom ∧ (start []).cfg.specialsApart = true := by decide

theorem test_witness_EeSetCursorFrame :
    (start []).fault = none ∧ (start []).cfg.answers 0 = true ∧
      (start []).deviceAt 0 = some .eeprom := by decide

theorem test_witness_EeReadFrameSendsTheWindow :
    (start []).fault = none ∧ (start []).cfg.answers 0 = true ∧
      (start []).deviceAt 0 = some .eeprom ∧ (start []).cfg.eeWindow ≠ 0 ∧
      consumed true [true, false, false, false, true] ≤ (start []).cfg.eeWindow.toNat := by decide

theorem test_witness_ReadFramesSendOneByteARequest :
    (∀ slot : Slot, (start []).cfg.answers slot = true) ∧ inv (start []) = true ∧ inv (eeTaking 2 1) = true := by decide

theorem test_witness_ProtectedWriteNeedsTheExactArm :
    (start []).fault = none ∧ (start []).cfg.answers 0 = true ∧
      (start []).deviceAt 0 = some .eeprom ∧ (start []).cfg.specialsApart = true ∧
      (start []).cfg.isSpecial 0x003F = false ∧
      regionAt (start []).cfg 0x003F = some ⟨0x0000, 0x003F, .persist, 0x0000, .protect⟩ := by decide

theorem test_witness_RejectedWriteStaysRejected :
    (start []).fault = none ∧ (start []).cfg.answers 0 = true ∧
      (start []).deviceAt 0 = some .eeprom ∧ (start []).cfg.armClear = ⟨none, none, none⟩ ∧
      (start []).cfg.isSpecial ((0x00 : Byte) ++ (0x38 : Byte)) = false ∧
      regionAt (start []).cfg ((0x00 : Byte) ++ (0x38 : Byte)) = some ⟨0x0000, 0x003F, .persist, 0x0000, .protect⟩ ∧
      (armed 0x00 0x38 0x13 (start [])).ee.arm ≠ ⟨some 0x00, some 0x38, some 0x12⟩ := by decide

theorem test_witness_OnlyEepromWritesTouchTheArm :
    ((start []).cfg.specialsApart = true ∧ (Instr.eeCtrl 0 0x5A).wf (start []).ctx = true ∧
        keepsArm (start []) (.eeCtrl 0 0x5A) = true ∧ ∃ t, exec (.eeCtrl 0 0x5A) (start []) = .next t) ∧
      (keepsArm (eeTaking 1 2) (.evDataRx 0x38 false) = true ∧
        keepsArm (eeTaking 2 1) (.evTick [.addr 0xA2, .stop]) = true) ∧
      (Instr.evTick [.addr 0xA2, .data 0xA8 false]).wf (start []).ctx = true ∧
      ∃ t, exec (.evTick [.addr 0xA2, .data 0xA8 false]) (start []) = .next t ∧
        ∀ c ∈ callsOf t.log, isEeWriteFull (start []) c = false :=
  ⟨⟨by decide, by decide, rfl, _, rfl⟩, by decide, by decide, _, rfl, by decide⟩

theorem test_witness_AdcReadStartConverts :
    (start []).adc.se = false ∧ (start []).cfg.adcDiffEnc = .mod256 ∧
      ({ tc with adcDiffEnc := .table (Vector.replicate 511 0) } : Params).adcDiffEnc =
        .table (Vector.replicate 511 0) ∧
      ({ start [] with adc := { (start []).adc with se := true } } : State).adc.se = true := ⟨rfl, rfl, rfl, rfl⟩

theorem test_witness_AdcCommandFrame :
    (start []).fault = none ∧ (start []).cfg.answers 1 = true ∧
      (start []).deviceAt 1 = some .adc := by decide

theorem test_witness_AdcReadFrame :
    (start []).fault = none ∧ (start []).cfg.answers 1 = true ∧
      (start []).deviceAt 1 = some .adc := by decide

theorem test_witness_AdcReadFollowsTheLastCommand :
    (start []).fault = none ∧ (start []).cfg.answers 1 = true ∧
      (start []).deviceAt 1 = some .adc ∧ (start []).eng.phase = .idle ∧
      (start []).cfg.adcSeValue = true ∧ (start []).cfg.adcDiffPol = .setIsChanMinusPair ∧
      (start []).cfg.adcDiffEnc = .mod256 := by decide

theorem test_witness_GpiWriteSideHandlers :
    ∃ i n, i = Instr.gpiWriteStop n ∨ i = Instr.gpiWriteError n := ⟨.gpiWriteError 0, 0, .inr rfl⟩

theorem test_witness_GpiReadSideHandlers :
    ∃ i n, i = Instr.gpiReadStop n ∨ i = Instr.gpiReadError n := ⟨.gpiReadStop 2, 2, .inl rfl⟩

theorem test_witness_GpiSetMaskFrame :
    (start []).fault = none ∧ (start []).cfg.answers 2 = true ∧
      (start []).deviceAt 2 = some .gpi := by decide

theorem test_witness_GpiReadFrame :
    (start []).fault = none ∧ (start []).cfg.answers 2 = true ∧
      (start []).deviceAt 2 = some .gpi := by decide

theorem test_witness_LatchIsClearedOnlyByARead :
    ∃ t, exec (.gpiSetMask 2 0x0F) (start []) = .next t ∧ ∀ c ∈ callsOf t.log, c.2.1 ≠ ⟨.read, .start⟩ :=
  ⟨_, rfl, by decide⟩

theorem test_witness_EveryChangeOfTheLineIsLogged :
    ∃ t, exec (.evTick [.addr 0xA4, .stop]) (start [0x01]) = .next t := ⟨_, rfl⟩

theorem test_witness_SignallingNeedsAnEndedTransaction :
    ∃ t, exec (.evTick []) (start [0x01]) = .next t ∧ (start [0x01]).gpi.armed = false ∧
      ∀ c ∈ callsOf t.log, c.2.1.kind = .start ∨ c.2.1.kind = .boundary := ⟨_, rfl, rfl, by decide⟩

theorem test_witness_SramWriteSideHandlers :
    (start []).sram.wphase = .addrPhase ∧
      ({ start [] with sram := { (start []).sram with wphase := .dataPhase } } : State).sram.wphase = .dataPhase :=
  by decide

theorem test_witness_SramReadSideHandlers :
    1 ≤ (start []).cfg.sramPage := by decide

theorem test_witness_SramSetCursorFrame :
    (start []).fault = none ∧ (start []).cfg.answers 3 = true ∧
      (start []).deviceAt 3 = some .sram := by decide

theorem test_witness_SramWriteWrapsModulo512 :
    (start []).fault = none ∧ (start []).cfg.answers 3 = true ∧
      (start []).deviceAt 3 = some .sram ∧ Memory.wf (start []).sram.mem = true := by decide

theorem test_witness_SramReadWrapsModulo512 :
    (start []).fault = none ∧ (start []).cfg.answers 3 = true ∧
      (start []).deviceAt 3 = some .sram ∧ 1 ≤ (start []).cfg.sramPage := by decide

theorem test_witness_FramesAndTracesAreTheirEvents :
    decode (start []).ctx (.frame [.byte 0xA4, .byte 0x0F]) = .ok (.gpiSetMask 2 0x0F) ∧ (start []).fault = none ∧
      tc.selects (windowOf 0xA4) (slotOf 0xA4) = true := ⟨rfl, by decide, by decide⟩

theorem test_witness_EeReadFrameContinuesWindowAfterWindow :
    (start []).fault = none ∧ (start []).deviceAt 0 = some .eeprom ∧ (start []).cfg.answers 0 = true ∧
      (start []).cfg.eeWindow ≠ 0 ∧ windowsUsed 4 4 = 1 ∧ windowsUsed 4 5 = 2 := by decide

theorem test_witness_ErrorCausesSurfaceAsStated :
    eventError (.addr 0xA2) noAdc = some .unregistered ∧ eventError .error (eeTaking 2 1) = some .protocol ∧
      (let s := staged 0x00 0x38 0x00 (eeTaking 2 1);
      grantInv s = true ∧ s.eng.phase ≠ .idle ∧ s.eng.dir = .write ∧ s.eng.grant = some ⟨.eeStage, 0, 3⟩ ∧
        s.eng.rem = 1 ∧ eventError (.data 0x12 false) s = some .policy) ∧
      (start []).fault = none := by decide

end Sys2Proof.Tests
end

