-- ==== Sys2Proof/Proofs/PhaseCode.lean ====
section
/-! F-PHASE (spec/30_encoding.md R94): a phase code is the direction bit above the two bits of the kind, and `phaseOf`
and `phaseCode` undo each other. -/

namespace Sys2Proof

/-- Bits 1:0 of a phase code, by the kind (R94). -/
def kindBits : PhaseKind → BitVec 2
  | .start => 0b00
  | .boundary => 0b01
  | .stop => 0b10
  | .error => 0b11

/-- The layout of a phase code: its two fields side by side. -/
theorem phaseCode_eq_append (ph : Phase) : phaseCode ph = dirBit ph.dir ++ kindBits ph.kind := by
  obtain ⟨_ | _, _ | _⟩ := ph <;> rfl

theorem dirBit_getLsbD_zero (d : Dir) : (dirBit d).getLsbD 0 = (d == .read) := by
  cases d <;> rfl

theorem phaseCode_getLsbD_two (ph : Phase) : (phaseCode ph).getLsbD 2 = (ph.dir == .read) := by
  rw [phaseCode_eq_append, BitVec.getLsbD_append]
  exact dirBit_getLsbD_zero ph.dir

theorem phaseCode_extractLsb'_zero_two (ph : Phase) : (phaseCode ph).extractLsb' 0 2 = kindBits ph.kind := by
  rw [phaseCode_eq_append]
  exact BitVec.extractLsb'_append_eq_right

@[simp] theorem phaseOf_phaseCode (ph : Phase) : phaseOf (phaseCode ph) = ph := by
  obtain ⟨_ | _, _ | _⟩ := ph <;> rfl

@[simp] theorem phaseCode_phaseOf (code : BitVec 3) : phaseCode (phaseOf code) = code := by
  revert code
  decide

/-- Settles O2: the two fields are read off the layout, and the two round trips make the codes and the phases
one-to-one. -/
theorem phaseCodeIsDirectionAndKind : Obligations.PhaseCodeIsDirectionAndKind := by
  refine ⟨fun ph => ⟨phaseCode_getLsbD_two ph, ?_, phaseOf_phaseCode ph⟩, phaseCode_phaseOf⟩
  rw [phaseCode_extractLsb'_zero_two]
  cases ph.kind <;> rfl

end Sys2Proof
end

section
/-! The Transaction Engine's data and address events (spec/41_transaction_engine.md R132 to R135): how each event row
meets the engine's laws, then the statements about one event. -/

namespace Sys2Proof.Machine

/-! ### The live grant -/

/-- What the invariant says of a live grant (R26, R27, R122). -/
theorem grantInv_some {s : State} {w : Win} (hi : grantInv s = true) (hg : s.eng.grant = some w) :
    w.base + w.len.toNat ≤ w.space.size s.cfg ∧ s.eng.cnt.toNat + s.eng.rem.toNat = w.len.toNat ∧
      s.deviceAt s.eng.slot = some w.space.owner := by
  simp only [grantInv, hg, Bool.and_eq_true, decide_eq_true_eq, beq_iff_eq] at hi
  obtain ⟨⟨⟨-, hfit⟩, hsum⟩, hdev⟩ := hi
  exact ⟨hfit, hsum, hdev⟩

/-- With capacity left, the byte due lies inside the grant's space (R26). -/
theorem grantInv_due {s : State} {w : Win} (hi : grantInv s = true) (hg : s.eng.grant = some w)
    (hr : s.eng.rem ≠ 0) : w.base + s.eng.cnt.toNat < w.space.size s.cfg := by
  obtain ⟨hfit, hsum, -⟩ := grantInv_some hi hg
  have hpos : s.eng.rem.toNat ≠ 0 := fun h0 => hr (BitVec.eq_of_toNat_eq h0)
  omega

/-- A byte space is no engine register. -/
@[simp] theorem readByte_setEng (sp : Space) (i : Nat) (e : Engine) (s : State) :
    (s.setEng e).readByte sp i = s.readByte sp i := by
  cases sp <;> rfl

@[simp] theorem readByte_openExchange (sp : Space) (i : Nat) (s : State) :
    (openExchange s).readByte sp i = s.readByte sp i := by
  cases sp <;> rfl

@[simp] theorem readByte_install (sp : Space) (i : Nat) (a : Answer) (s : State) :
    (s.install a).readByte sp i = s.readByte sp i :=
  readByte_setEng sp i _ s

/-- Opening the exchange, then storing and counting a byte: the byte stored, and the registers of R134. -/
theorem storeByte_openExchange_countByte (sp : Space) (i : Nat) (v : Byte) (s : State) :
    ((openExchange s).storeByte sp i v).countByte =
      { s.storeByte sp i v with
        eng := { s.eng with phase := .exchanging, cnt := s.eng.cnt + 1, rem := s.eng.rem - 1 }
        wd := armedWatchdog s.cfg
        log := s.log } := by
  cases sp <;> rfl

@[simp] theorem storeByte_deviceAt (sp : Space) (i : Nat) (v : Byte) (s : State) (slot : Slot) :
    (s.storeByte sp i v).deviceAt slot = s.deviceAt slot := by
  cases sp <;> rfl

/-! ### Settled answers -/

/-- Settling keeps the acknowledge (R111). -/
@[simp] theorem settled_ack (ph : Phase) (a : Answer) : (settled ph a).ack = a.ack := by
  unfold settled
  split
  · rfl
  · rfl
  · split <;> rfl
  · split <;> rfl

/-- The registers after a BufferBoundary answer is installed: its capacity, and its window where it has capacity (R111,
R113). -/
theorem install_settled_boundary (d : Dir) (a : Answer) (t : State) :
    t.install (settled ⟨d, .boundary⟩ a) =
      { t with eng := { t.eng with cnt := 0, rem := a.cap, grant := if a.cap = 0 then none else a.grant } } := by
  by_cases hc : a.cap = 0
  · rw [settled_zero _ _ hc, hc]
    rfl
  · rw [settled_boundary d a hc, if_neg hc]
    rfl

/-- A BufferBoundary answer with capacity carries a window, its first byte inside a space (R122). -/
theorem boundary_grant (k : DeviceKind) (d : Dir) (n : Count) (s : State)
    (hc : (handler k ⟨d, .boundary⟩ n s).1.cap ≠ 0) :
    ∃ w, (handler k ⟨d, .boundary⟩ n s).1.grant = some w ∧ w.base < w.space.size s.cfg := by
  have hcases := settled_cases k ⟨d, .boundary⟩ n s
  rw [settled_boundary d _ hc] at hcases
  obtain ⟨-, h0⟩ | ⟨w, hg, -, hlen, hfit, -⟩ := hcases
  · exact absurd h0 hc
  · have hpos : w.len.toNat ≠ 0 := fun h0 => hlen (BitVec.eq_of_toNat_eq h0)
    exact ⟨w, hg, by omega⟩

/-- The EEPROM's window keeps its full length over every handler (R32, R185). -/
theorem handler_winLength (k : DeviceKind) (ph : Phase) (n : Count) {s : State}
    (hw : s.ee.win.length = s.cfg.eeWindow.toNat) :
    (handler k ph n s).2.ee.win.length = (handler k ph n s).2.cfg.eeWindow.toNat := by
  have hf := handler_frame k ph n s
  rw [hf.cfg]
  rcases hf.win with hwin | hlen
  · rw [hwin, hw]
  · exact hlen

/-! ### Event rows -/

/-- The address row of a direction, to a slot the block answers, is the address match (R131). -/
theorem exec_evAddr {s : State} {slot : Slot} (ha : s.cfg.answers slot = true) (dir : Dir) :
    exec (match dir with | .write => .evAddrW s.cfg.base slot | .read => .evAddrR s.cfg.base slot) s =
      .next (addressMatch slot dir s) := by
  rw [← addressEvent_base ha dir]
  cases dir <;> rfl

theorem exec_evDataRx (rx : Byte) (mNack : Bool) (s : State) :
    exec (.evDataRx rx mNack) s = .next (dataEvent rx mNack s) := rfl

theorem exec_evDataTx (rx : Byte) (mNack : Bool) (s : State) :
    exec (.evDataTx rx mNack) s = .next (dataEvent rx mNack s) := rfl

/-- A data event with no transaction open (R135). -/
theorem dataEvent_idle {s : State} (hp : s.eng.phase = .idle) (rx : Byte) (mNack : Bool) :
    dataEvent rx mNack s = (s.emit (.ack .nack)).emit (.tx Config.fill) := by
  unfold dataEvent
  rw [hp]

/-- A data event of a write transaction receives (R134). -/
theorem dataEvent_write {s : State} (hp : s.eng.phase ≠ .idle) (hd : s.eng.dir = .write) (rx : Byte) (mNack : Bool) :
    dataEvent rx mNack s = receiveByte rx s := by
  unfold dataEvent
  rw [hd]
  cases h : s.eng.phase with
  | idle => exact absurd h hp
  | addressed | exchanging => rfl

/-- A data event of a read transaction sends (R133). -/
theorem dataEvent_read {s : State} (hp : s.eng.phase ≠ .idle) (hd : s.eng.dir = .read) (rx : Byte) (mNack : Bool) :
    dataEvent rx mNack s = sendByte mNack s := by
  unfold dataEvent
  rw [hd]
  cases h : s.eng.phase with
  | idle => exact absurd h hp
  | addressed | exchanging => rfl

/-! ### The address-phase acknowledge (R132) -/

/-- Every device acknowledges its Start, capacity or none (R132). -/
theorem handler_start_ack (k : DeviceKind) (dir : Dir) (n : Count) (s : State) :
    (handler k ⟨dir, .start⟩ n s).1.ack = .ack := by
  cases k <;> cases dir <;> rfl

/-- An address match only appends to the log before its acknowledge, which is Ack for a registered slot. -/
theorem addressMatch_log_some {slot : Slot} {k : DeviceKind} {s : State} (h : s.deviceAt slot = some k) (dir : Dir) :
    ∃ rs, (addressMatch slot dir s).log = s.log ++ rs ++ [.ack .ack] := by
  obtain ⟨k₀, -, hstop⟩ := restartStop_frame s
  obtain ⟨rs₁, h₁⟩ := hstop.log
  obtain ⟨rs₂, h₂⟩ := (called_frame k slot ⟨dir, .start⟩ 0 (opened slot dir s)).log
  have ho : (opened slot dir s).log = s.log ++ rs₁ := h₁
  refine ⟨rs₁ ++ rs₂, ?_⟩
  rw [addressMatch_some h]
  simp only [State.emit_log, State.install_log, settled_ack, handler_start_ack, h₂, ho, List.append_assoc]

/-- An address match on an Empty slot ends in Nack. -/
theorem addressMatch_log_none {slot : Slot} {s : State} (h : s.deviceAt slot = none) (dir : Dir) :
    ∃ rs, (addressMatch slot dir s).log = s.log ++ rs ++ [.ack .nack] := by
  obtain ⟨k₀, -, hstop⟩ := restartStop_frame s
  obtain ⟨rs, hrs⟩ := hstop.log
  have ho : (opened slot dir s).log = s.log ++ rs := hrs
  exact ⟨rs, by rw [addressMatch_none h, State.emit_log, State.install_log, ho]⟩

/-- Settles O14: every Start handler acknowledges, and the null device of an Empty slot does not. -/
theorem addressAckTellsARegisteredSlot : Obligations.AddressAckTellsARegisteredSlot := by
  intro s slot dir ha
  refine ⟨_, exec_evAddr ha dir, ?_⟩
  cases h : s.deviceAt slot with
  | none =>
    obtain ⟨rs, hlog⟩ := addressMatch_log_none h dir
    exact ⟨rs, .nack, hlog, by simp⟩
  | some k =>
    obtain ⟨rs, hlog⟩ := addressMatch_log_some h dir
    exact ⟨rs, .ack, hlog, by simp⟩

/-! ### Data events -/

/-- Settles O18: both rows are the one data event, which while Idle only appends its two records. -/
theorem dataWhileIdleIsRefused : Obligations.DataWhileIdleIsRefused := by
  intro s rx mNack hp
  rw [exec_evDataRx, exec_evDataTx, dataEvent_idle hp]
  have hlog : (s.emit (.ack .nack)).emit (.tx Config.fill) =
      { s with log := s.log ++ [.ack .nack, .tx 0xFF] } := by
    simp [State.emit, Config.fill]
  exact ⟨congrArg _ hlog, congrArg _ hlog⟩

/-- All that WriteBufferFull of a registered slot does (R134): the call on the state as it stands, then the new grant
and the device's acknowledge. -/
theorem deliverFull_eq {k : DeviceKind} {s : State} (h : s.deviceAt s.eng.slot = some k) :
    deliverFull s =
      let r := handler k ⟨.write, .boundary⟩ s.eng.cnt (s.emit (.call s.eng.slot ⟨.write, .boundary⟩ s.eng.cnt))
      { r.2 with
        eng := { s.eng with cnt := 0, rem := r.1.cap, grant := if r.1.cap = 0 then none else r.1.grant }
        log := r.2.log ++ [.ack r.1.ack] } := by
  have he := (called_frame k s.eng.slot ⟨.write, .boundary⟩ s.eng.cnt s).eng
  rw [deliverFull_some h]
  simp only [settled_ack, install_settled_boundary, he]
  rfl

/-- Settles O20: the invariant puts the byte due inside the grant and the grant's owner in the slot, so the byte is
stored, and delivered where it was the last. -/
theorem writeDataByte : Obligations.WriteDataByte := by
  intro s rx mNack hp hd hi
  rw [exec_evDataRx, dataEvent_write hp hd]
  refine ⟨fun hr => by rw [receiveByte_empty hr]; rfl, fun w hg hr => ?_⟩
  rw [receiveByte_due hr hg (grantInv_due hi hg hr), storeByte_openExchange_countByte]
  intro u e
  refine ⟨fun h1 => by rw [if_neg h1]; rfl, fun h1 => ?_⟩
  obtain ⟨-, -, hdev⟩ := grantInv_some hi hg
  have hdev' : ({ u with eng := e, wd := armedWatchdog s.cfg, log := s.log } : State).deviceAt s.eng.slot =
      some w.space.owner := (storeByte_deviceAt w.space _ rx s s.eng.slot).trans hdev
  rw [if_pos h1]
  exact congrArg _ (deliverFull_eq hdev')

/-- After the master's NACK, once a byte of the grant was sent, FILL is sent (R133). -/
theorem sendByte_nacked {s : State} (hc : s.eng.cnt ≠ 0) :
    sendByte true s = (openExchange s).emit (.tx Config.fill) := by
  unfold sendByte
  exact if_pos (by simpa using hc)

/-- Without a NACK, or before the first byte of the grant, the capacity decides (R133). -/
theorem sendByte_wanted {mNack : Bool} {s : State} (hm : mNack = false ∨ s.eng.cnt = 0) :
    sendByte mNack s = if s.eng.rem = 0 then refill (openExchange s) else shiftOut (openExchange s) := by
  unfold sendByte
  rcases hm with hm | hm <;> simp [hm]

/-- A refill that is granted no capacity sends FILL (R133). -/
theorem refill_refused {k : DeviceKind} {s : State} (h : s.deviceAt s.eng.slot = some k) (hd : s.eng.dir = .read) :
    let r := handler k ⟨.read, .boundary⟩ s.eng.cnt (s.emit (.call s.eng.slot ⟨.read, .boundary⟩ s.eng.cnt))
    r.1.cap = 0 →
      refill s =
        { r.2 with eng := drained s.eng.phase s.eng.slot .read, log := r.2.log ++ [.tx Config.fill] } := by
  intro r hc
  have he : r.2.eng = s.eng := (called_frame k s.eng.slot ⟨.read, .boundary⟩ s.eng.cnt s).eng
  calc refill s
      = shiftOut (r.2.install (settled ⟨.read, .boundary⟩ r.1)) := refill_some h
    _ = (r.2.install (.refuse r.1.ack)).emit (.tx Config.fill) := by
        rw [settled_zero _ _ hc]
        exact shiftOut_empty rfl
    _ = _ := by
        simp only [State.install, he, hd]
        rfl

/-- A refill that is granted capacity sends the first byte of the new window (R133). -/
theorem refill_granted {k : DeviceKind} {s : State} (h : s.deviceAt s.eng.slot = some k) (hd : s.eng.dir = .read)
    (hw : s.ee.win.length = s.cfg.eeWindow.toNat) :
    let r := handler k ⟨.read, .boundary⟩ s.eng.cnt (s.emit (.call s.eng.slot ⟨.read, .boundary⟩ s.eng.cnt))
    r.1.cap ≠ 0 →
      ∃ w b, r.1.grant = some w ∧ r.2.readByte w.space w.base = some b ∧
        refill s =
          { r.2 with
            eng :=
              { phase := s.eng.phase, slot := s.eng.slot, dir := .read, cnt := 1, rem := r.1.cap - 1, grant := some w }
            log := r.2.log ++ [.tx b] } := by
  intro r hc
  have hf : DeviceFrame k s r.2 := called_frame k s.eng.slot ⟨.read, .boundary⟩ s.eng.cnt s
  have hwin : r.2.ee.win.length = r.2.cfg.eeWindow.toNat := handler_winLength k _ _ hw
  obtain ⟨w, hg, hfit⟩ : ∃ w, r.1.grant = some w ∧ w.base < w.space.size s.cfg :=
    boundary_grant k .read s.eng.cnt _ hc
  have hroom : w.base < w.space.size r.2.cfg := by rw [hf.cfg]; exact hfit
  obtain ⟨b, hb, hs⟩ := shiftOut_due (s := r.2.install r.1) (w := w) hc hg hroom hwin
  refine ⟨w, b, hg, (readByte_install w.space w.base r.1 r.2).symm.trans hb, ?_⟩
  calc refill s
      = shiftOut (r.2.install (settled ⟨.read, .boundary⟩ r.1)) := refill_some h
    _ = (r.2.install r.1).countByte.emit (.tx b) := by rw [settled_boundary _ _ hc, hs]
    _ = _ := by
        simp only [State.install, hf.eng, hd, hg]
        rfl

/-- Settles O22: the invariant puts the byte due inside the grant, and a device asked again answers either no capacity
or a window with a first byte. -/
theorem readDataByte : Obligations.ReadDataByte := by
  intro s rx mNack hp hd hi hw
  rw [exec_evDataTx, dataEvent_read hp hd]
  refine ⟨fun hm hc => ?_, fun hm => ?_⟩
  · subst hm
    rw [sendByte_nacked hc]
    rfl
  rw [sendByte_wanted hm]
  refine ⟨fun w hg hr => ?_, fun k hk hr => ?_, fun hn hr => ?_⟩
  · obtain ⟨b, hb, hs⟩ := shiftOut_due (s := openExchange s) hr hg (grantInv_due hi hg hr) hw
    rw [readByte_openExchange] at hb
    exact ⟨b, hb, by rw [if_neg hr, hs]; rfl⟩
  · rw [if_pos hr]
    refine ⟨fun hc => congrArg _ (refill_refused (s := openExchange s) hk hd hc), fun hc => ?_⟩
    obtain ⟨w, b, hg, hb, ht⟩ := refill_granted (s := openExchange s) hk hd hw hc
    exact ⟨w, b, hg, hb, congrArg _ ht⟩
  · rw [if_pos hr, refill_none (s := openExchange s) hn, shiftOut_empty rfl, ← hd]
    rfl

end Sys2Proof.Machine
end

section
/-! The tick (spec/42_bus_watchdog.md R161 to R163): the watchdog step, one equation per case, and the tick row with no
event between its two critical sections. -/

namespace Sys2Proof.Machine

/-! ### The watchdog step -/

/-- A disabled watchdog does nothing on a tick (R161). -/
theorem watchdogStep_disabled {s : State} (he : s.wd.enabled = false) : watchdogStep s = s := by
  simp [watchdogStep, he]

/-- Above 1 the count goes down and nothing else changes (R161). -/
theorem watchdogStep_running {s : State} (he : s.wd.enabled = true) (hc : 2 ≤ s.wd.count) :
    watchdogStep s = { s with wd := { enabled := true, count := s.wd.count - 1 } } := by
  have hpos : s.wd.count - 1 ≠ 0 := by omega
  rw [watchdogStep, if_pos he, if_neg hpos, ← he]
  rfl

/-- At a count of 1 the watchdog expires (R162); the model expires at 0 too, a count R161 excludes. -/
theorem watchdogStep_expiring {s : State} (he : s.wd.enabled = true) (hc : s.wd.count ≤ 1) :
    watchdogStep s =
      { s with
        eng := drained .idle s.eng.slot s.eng.dir, wd := offWatchdog, log := s.log ++ [.periphRestart] } := by
  have hzero : s.wd.count - 1 = 0 := by omega
  rw [watchdogStep, if_pos he, if_pos hzero]
  rfl

/-- The watchdog step raises no fault (R161, R162). -/
@[simp] theorem watchdogStep_fault (s : State) : (watchdogStep s).fault = s.fault := by
  cases he : s.wd.enabled with
  | false => rw [watchdogStep_disabled he]
  | true =>
    rcases Nat.lt_or_ge 1 s.wd.count with hc | hc
    · rw [watchdogStep_running he hc]
    · rw [watchdogStep_expiring he hc]

/-! ### The tick row -/

/-- With no event between its sections, a tick is the watchdog step, then the GPI step (R163). -/
theorem exec_evTick_nil {s : State} (hf : s.fault = none) :
    exec (.evTick []) s = .next (gpiTick (watchdogStep s)) := by
  have hw : (busEvents [] (watchdogStep s)).fault = none := (watchdogStep_fault s).trans hf
  have ht : tickEvent [] s = gpiTick (watchdogStep s) := by
    unfold tickEvent
    rw [hw]
    rfl
  exact congrArg _ ht

/-- Settles O25: the tick is the GPI step after the watchdog step, and each clause is one case of the watchdog step. -/
theorem tickCountsDownAndExpires : Obligations.TickCountsDownAndExpires := by
  intro s hf
  rw [exec_evTick_nil hf]
  refine ⟨fun he => ?_, fun he hc => ?_, fun he hc => ?_⟩
  · rw [watchdogStep_disabled he]
  · rw [watchdogStep_running he hc]
  · rw [watchdogStep_expiring he hc.le]

end Sys2Proof.Machine
end

section
/-! The reset state (spec/70_reset_and_hazards.md R310): the registry reset leaves, slot by slot, and the values that
reset gives the other registers. -/

namespace Sys2Proof.Machine

/-- The registry after reset, slot by slot (R31). -/
theorem registry_get (p : Params) (slot : Slot) :
    p.registry[slot.toNat] = if p.registered[slot.toNat] then some p.slotDevice[slot.toNat] else none := by
  obtain ⟨i⟩ := slot
  fin_cases i <;> rfl

@[simp] theorem resetWith_deviceAt (p : Params) (m : Memory) (slot : Slot) :
    (State.resetWith p m).deviceAt slot = if p.registered[slot.toNat] then some p.slotDevice[slot.toNat] else none :=
  registry_get p slot

/-- The default registration (R7, D3, D4): every slot holds its device. -/
theorem config_registry : Config.params.registry = #v[some .eeprom, some .adc, some .gpi, some .sram] := rfl

@[simp] theorem resetWith_sram_mem (p : Params) (m : Memory) : (State.resetWith p m).sram.mem = m := rfl

/-- The SRAM byte at each address is its draw right after reset (R35, D32). -/
theorem reset_sram_read {a : Nat} (h : a < Config.sramSize) :
    Memory.read a State.reset.sram.mem = Config.sramDraw a := by
  rw [State.reset, resetWith_sram_mem]
  exact Memory.read_powerUp a h

/-- Settles O7: the registry slot by slot, and the SRAM by its listed draws; every other row of R310 is a field of
`State.resetWith` as it is defined. -/
theorem resetLeavesTheStatedValues : Obligations.ResetLeavesTheStatedValues := by
  refine ⟨fun p m => ?_, rfl, rfl, config_registry, fun a h => reset_sram_read h⟩
  exact
    ⟨rfl, rfl, rfl, -- `eng`, `wd`, `tk`
      resetWith_deviceAt p m, -- `reg`
      rfl, rfl, -- `ee`
      rfl, rfl, rfl, -- `adc`
      rfl, rfl, rfl, rfl, rfl, rfl, -- `gpi`
      resetWith_sram_mem p m, rfl, rfl, -- `sram`
      rfl, rfl⟩ -- the log and the fault

end Sys2Proof.Machine
end

section
/-! Decoding and encoding (spec/30_encoding.md): the decoder on each kind of encoded item, the encoder on each kind of
decoded item, and with them the two round trips. -/

namespace Sys2Proof

/-! ### Decoding an encoded operation -/

/-- The phase row the context selects is decoded from its phase code (R94, R100). -/
theorem decode_phase {c : Ctx} {k : DeviceKind} {n : Count} (h : c.calls k n = true) (ph : Phase) :
    decode c (.phase (phaseCode ph)) = .ok (decodePhase k ph n) := by
  simp only [Ctx.calls, Bool.and_eq_true, beq_iff_eq] at h
  obtain ⟨hdev, rfl⟩ := h
  simp [decode, hdev]

/-- A frame to an answered slot decodes to what its body stands for (R97). -/
theorem decode_frame {c : Ctx} {s : Slot} {k : DeviceKind} (h : c.serves s k = true) {d : Dir} {ts : List Token}
    {i : Instr} (hb : decodeBody c.cfg s k d ts = some i) :
    decode c (.frame (.byte (addrByte c.cfg.base s d) :: ts)) = .ok i := by
  simp only [Ctx.serves, Bool.and_eq_true, beq_iff_eq] at h
  obtain ⟨hans, hdev⟩ := h
  have hsel : c.cfg.selects c.cfg.base s = true := hans
  simp [decode, decodeFrame, hsel, hdev, hb]

/-- The four special addresses, pairwise distinct (R87). -/
theorem specialsApart_iff (p : Params) : p.specialsApart = true ↔
    p.weHi ≠ p.weLo ∧ p.weHi ≠ p.weData ∧ p.weLo ≠ p.weData ∧ p.eeCtrl ≠ p.weHi ∧ p.eeCtrl ≠ p.weLo ∧
      p.eeCtrl ≠ p.weData := by
  simp [Params.specialsApart, and_assoc]

theorem isSpecial_eq_false_iff (p : Params) (a : U16) : p.isSpecial a = false ↔
    a ≠ p.weHi ∧ a ≠ p.weLo ∧ a ≠ p.weData ∧ a ≠ p.eeCtrl := by
  simp [Params.isSpecial, and_assoc]

/-- A store write's address is no special one, so its frame decodes to the store write (R85, R87). -/
theorem decodeEeWrite_ordinary {p : Params} {hi lo : Byte} (h : p.isSpecial (hi ++ lo) = false) (s : Slot) (d : Byte) :
    decodeEeWrite p s hi lo d = .eeWriteByte s hi lo d := by
  obtain ⟨h1, h2, h3, h4⟩ := (isSpecial_eq_false_iff p _).mp h
  simp [decodeEeWrite, cat16, h1, h2, h3, h4]

/-- The frame of an EEPROM write to an address, decoded (R85). -/
theorem decode_eeWriteFrame {c : Ctx} {s : Slot} (h : c.serves s .eeprom = true) (a : U16) (d : Byte) :
    decode c (eeWriteFrame c s a d) = .ok (decodeEeWrite c.cfg s (hi8 a) (lo8 a) d) :=
  decode_frame h rfl

/-- The body of a read frame is its requests (R86, R89, R91, R93). -/
theorem decode_readFrame {c : Ctx} {s : Slot} {k : DeviceKind} {reqs : List Bool} (h : c.serves s k = true) {i : Instr}
    (hb : decodeBody c.cfg s k .read (reqs.map reqToken) = some i) : decode c (readFrame c s reqs) = .ok i :=
  decode_frame h hb

/-- Settles O3: each row is decoded by the lemma of its kind of item; the special addresses being distinct keeps the
four register frames apart. -/
theorem decodeOfEncodeIsTheOperation : Obligations.DecodeOfEncodeIsTheOperation := by
  intro c i hsp hwf
  obtain ⟨h1, h2, h3, h4, h5, h6⟩ := (specialsApart_iff c.cfg).mp hsp
  cases i with
  | evAddrW b s | evAddrR b s => simp [encode, decode, decodeEvent]
  | evDataRx rx m | evDataTx rx m => simp_all [Instr.wf, encode, decode, decodeEvent]
  | evStop | evError | evTick => rfl
  | eeWriteStart n | eeWriteBufferFull n | eeWriteStop n | eeWriteError n | eeReadStart n | eeReadBufferEmpty n
  | eeReadStop n | eeReadError n | adcWriteStart n | adcWriteBufferFull n | adcWriteStop n | adcWriteError n
  | adcReadStart n | adcReadBufferEmpty n | adcReadStop n | adcReadError n | gpiWriteStart n | gpiWriteBufferFull n
  | gpiWriteStop n | gpiWriteError n | gpiReadStart n | gpiReadBufferEmpty n | gpiReadStop n | gpiReadError n
  | sramWriteStart n | sramWriteBufferFull n | sramWriteStop n | sramWriteError n | sramReadStart n
  | sramReadBufferEmpty n | sramReadStop n | sramReadError n => exact decode_phase hwf _
  | eeWriteByte s hi lo d =>
    simp only [Instr.wf, Bool.and_eq_true, Bool.not_eq_true'] at hwf
    obtain ⟨hserves, hord⟩ := hwf
    exact decode_frame hserves (congrArg some (decodeEeWrite_ordinary hord s d))
  | eeArmHi s d | eeArmLo s d | eeArmData s d | eeCtrl s d =>
    exact (decode_eeWriteFrame hwf _ d).trans (by simp [decodeEeWrite, *, Ne.symm])
  | eeSetCursor s hi lo fin | sramSetCursor s hi lo fin => cases fin <;> exact decode_frame hwf rfl
  | adcCmd s cmd | gpiSetMask s m => exact decode_frame hwf rfl
  | eeRead s reqs | adcRead s reqs | sramRead s reqs =>
    simp only [Instr.wf, Bool.and_eq_true, decide_eq_true_eq] at hwf
    obtain ⟨hserves, hlen⟩ := hwf
    obtain ⟨r, rs, rfl⟩ := List.exists_cons_of_length_pos hlen
    exact decode_readFrame hserves (by simp only [decodeBody, decodeReqs_map])
  | gpiRead s reqs =>
    simp only [Instr.wf, Bool.and_eq_true, decide_eq_true_eq] at hwf
    obtain ⟨hserves, hlen⟩ := hwf
    match reqs, hlen with
    | r :: q :: rs, _ => exact decode_readFrame hserves (by simp only [decodeBody, decodeReqs_map])
  | sramWrite s hi lo ds =>
    simp only [Instr.wf, Bool.and_eq_true, decide_eq_true_eq] at hwf
    obtain ⟨hserves, hlen⟩ := hwf
    obtain ⟨b, bs, rfl⟩ := List.exists_cons_of_length_pos hlen
    refine decode_frame hserves ?_
    have hb := decodeBytes_map (b :: bs)
    simp only [List.map_cons] at hb ⊢
    simp only [decodeBody, hb]

/-! ### Encoding a decoded item -/

/-- A phase row is encoded as its phase code. -/
theorem encode_decodePhase (c : Ctx) (k : DeviceKind) (ph : Phase) (n : Count) :
    encode c (decodePhase k ph n) = .phase (phaseCode ph) := by
  obtain ⟨d, kd⟩ := ph
  cases k <;> cases d <;> cases kd <;> rfl

/-- An event row is encoded as its event. -/
theorem encode_decodeEvent (c : Ctx) (e : BusEvent) : encode c (decodeEvent c e) = .event e := by
  cases e with
  | addr a =>
    have ha := addrByte_fields a
    cases hd : dirOf a <;> rw [hd] at ha <;> simp [decodeEvent, hd, encode, ha]
  | data rx m => cases hd : c.dir <;> simp [decodeEvent, hd, encode]
  | stop | error => rfl

/-- What an EEPROM write decodes to is encoded with its address bytes, a special address or not (R85, R87). -/
theorem encode_decodeEeWrite (c : Ctx) (s : Slot) (hi lo d : Byte) :
    encode c (decodeEeWrite c.cfg s hi lo d) = writeFrame c s [.byte hi, .byte lo, .byte d] := by
  unfold decodeEeWrite
  split_ifs with h1 h2 h3 h4
  · simp [encode, eeWriteFrame, ← h1]
  · simp [encode, eeWriteFrame, ← h2]
  · simp [encode, eeWriteFrame, ← h3]
  · simp [encode, eeWriteFrame, ← h4]
  · rfl

/-- A read frame's tokens are its requests'. -/
theorem encode_readFrame {c : Ctx} {s : Slot} {ts : List Token} {reqs : List Bool} (h : decodeReqs ts = some reqs) :
    readFrame c s reqs = .frame (.byte (addrByte c.cfg.base s .read) :: ts) := by
  rw [readFrame, decodeReqs_some ts reqs h]

/-- A frame's body is encoded with the address byte of its slot and direction. -/
theorem encode_decodeBody {c : Ctx} {s : Slot} {k : DeviceKind} {d : Dir} {ts : List Token} {i : Instr}
    (h : decodeBody c.cfg s k d ts = some i) : encode c i = .frame (.byte (addrByte c.cfg.base s d) :: ts) := by
  unfold decodeBody at h
  split at h
  case h_1 hi lo b =>
    obtain rfl := Option.some.inj h
    exact encode_decodeEeWrite c s hi lo b
  case h_14 hi lo ts _ _ =>
    split at h
    · next b bs hb =>
      obtain rfl := Option.some.inj h
      simp only [encode, writeFrame, decodeBytes_some ts _ hb]
    · cases h
  case h_5 | h_8 | h_11 | h_16 =>
    split at h
    · next hr =>
      obtain rfl := Option.some.inj h
      exact encode_readFrame hr
    · cases h
  all_goals cases h
  all_goals rfl

/-- Settles O4: each kind of item decodes by its own lemma's row, and that row's encoding is the item. -/
theorem encodeOfDecodeIsTheItem : Obligations.EncodeOfDecodeIsTheItem := by
  intro c it i h
  cases it with
  | event e =>
    obtain rfl := Except.ok.inj h
    exact encode_decodeEvent c e
  | tick between =>
    obtain rfl := Except.ok.inj h
    rfl
  | phase code =>
    simp only [decode] at h
    split at h
    · obtain rfl := Except.ok.inj h
      rw [encode_decodePhase, phaseCode_phaseOf]
    · cases h
  | frame ts =>
    simp only [decode, decodeFrame] at h
    split at h
    · next a ts =>
      split at h
      · next hsel =>
        split at h
        · cases h
        · split at h
          · next hb =>
            obtain rfl := Except.ok.inj h
            have hbase : windowOf a = c.cfg.base := by
              simp only [Params.selects, Bool.and_eq_true, beq_iff_eq] at hsel
              exact hsel.1.1
            rw [encode_decodeBody hb, ← hbase, addrByte_fields]
          · cases h
      · cases h
    · cases h

/-! ### Words written out -/

/-- A frame whose address byte is written out. -/
theorem decode_writtenFrame {c : Ctx} {a : Byte} {b : BitVec 5} {s : Slot} {k : DeviceKind} {d : Dir} {ts : List Token}
    {i : Instr} (hbase : c.cfg.base = b) (h : c.serves s k = true) (ha : a = addrByte b s d)
    (hb : decodeBody c.cfg s k d ts = some i) : decode c (.frame (.byte a :: ts)) = .ok i := by
  subst ha hbase
  exact decode_frame h hb

/-- Settles O1: each word is a constant under the parameters and the registry that the statement fixes. -/
theorem writtenOutWordsDecode : Obligations.WrittenOutWordsDecode := by
  intro c hbase hreg hhi hlo hdata hctrl
  have hans : ∀ s : Slot, c.cfg.answers s = true := by
    simp only [Params.answers, Params.selects, hbase]
    decide
  have hserves (s : Slot) (k : DeviceKind) (hk : c.reg[s.toNat] = some k) : c.serves s k = true := by
    simp [Ctx.serves, Ctx.deviceAt, hk, hans]
  have hee : c.serves 0 .eeprom = true := hserves 0 _ (by rw [hreg]; rfl)
  have hadc : c.serves 1 .adc = true := hserves 1 _ (by rw [hreg]; rfl)
  have hgpi : c.serves 2 .gpi = true := hserves 2 _ (by rw [hreg]; rfl)
  have hsram : c.serves 3 .sram = true := hserves 3 _ (by rw [hreg]; rfl)
  refine ⟨rfl, rfl, fun hs => ?_, fun hs => ?_, ?_, ?_, ?_, ?_, ?_, ?_⟩
  · exact decode_phase (k := .gpi) (by simp [Ctx.calls, Ctx.deviceAt, hs, hreg]) ⟨.read, .stop⟩
  · exact decode_phase (k := .eeprom) (by simp [Ctx.calls, Ctx.deviceAt, hs, hreg]) ⟨.write, .boundary⟩
  · exact decode_writtenFrame hbase hee (d := .write) rfl (by simp [decodeBody, decodeEeWrite, cat16, hhi, hlo])
  · exact decode_writtenFrame hbase hee (d := .write) rfl
      (by simp [decodeBody, decodeEeWrite, cat16, hhi, hlo, hdata, hctrl])
  · exact decode_writtenFrame hbase hee (d := .write) rfl rfl
  · exact decode_writtenFrame hbase hadc (d := .write) rfl rfl
  · exact decode_writtenFrame hbase hgpi (d := .read) rfl rfl
  · exact decode_writtenFrame hbase hsram (d := .write) rfl rfl

end Sys2Proof
end

section
/-! What any operation can do, said once: every event and tick is a sequence of elementary changes (`Change`), and a
phase row is one call. A statement about every operation is then proved for each elementary change, and for a call. -/

namespace Sys2Proof.Machine

/-! ### Elementary changes -/

/-- The records the engine and the watchdog write themselves (R43). -/
def Record.ofBus : Record → Bool
  | .ack _ => true
  | .tx _ => true
  | .periphRestart => true
  | .call _ _ _ => false
  | .persistWrite _ _ => false
  | .superviseCtrl _ => false
  | .irq _ => false

/-- The state after a call of a device: its Call record, then its handler (R111, log 13). -/
def calledState (k : DeviceKind) (slot : Slot) (ph : Phase) (n : Count) (s : State) : State :=
  (handler k ph n (s.emit (.call slot ph n))).2

/-- One elementary change: the engine's and the watchdog's registers and the kept answer, the tick's pacing inside its
range (R30), a record of the bus, a granted byte stored, a device called, or the pins sampled. -/
inductive Change : State → State → Prop
  | regs (s : State) (e : Engine) (w : Watchdog) (a : Answer) : Change s { s with eng := e, wd := w, ans := a }
  | paced (s : State) (n : Nat) (h : s.gpiCount < s.cfg.gpiPeriod → n < s.cfg.gpiPeriod) : Change s (s.setGpiCount n)
  | bus (s : State) (r : Record) (h : r.ofBus = true) : Change s (s.emit r)
  | stored (s : State) (sp : Space) (i : Nat) (v : Byte) : Change s (s.storeByte sp i v)
  | called (s : State) (k : DeviceKind) (slot : Slot) (ph : Phase) (n : Count) (h : s.deviceAt slot = some k) :
    Change s (calledState k slot ph n s)
  | sampled (s : State) : Change s (gpiSample s)

/-- A sequence of elementary changes. -/
abbrev Changes : State → State → Prop := Relation.ReflTransGen Change

/-- A reflexive and transitive relation that every elementary change meets is met by a sequence of them. -/
theorem Changes.rule {R : State → State → Prop} (hrefl : ∀ s, R s s) (htrans : ∀ {s t u}, R s t → R t u → R s u)
    (hstep : ∀ {s t}, Change s t → R s t) {s t : State} (h : Changes s t) : R s t := by
  induction h with
  | refl => exact hrefl s
  | tail _ hc ih => exact htrans ih (hstep hc)

theorem changes_emit {r : Record} (h : r.ofBus = true) (s : State) : Changes s (s.emit r) := .single (.bus s r h)

theorem changes_ack (a : Ack) (s : State) : Changes s (s.emit (.ack a)) := changes_emit rfl s

theorem changes_tx (b : Byte) (s : State) : Changes s (s.emit (.tx b)) := changes_emit rfl s

theorem changes_setEng (e : Engine) (s : State) : Changes s (s.setEng e) := .single (.regs s e s.wd s.ans)

theorem changes_setWd (w : Watchdog) (s : State) : Changes s (s.setWd w) := .single (.regs s s.eng w s.ans)

theorem changes_setAns (a : Answer) (s : State) : Changes s (s.setAns a) := .single (.regs s s.eng s.wd a)

theorem changes_clear (s : State) : Changes s s.clear := (changes_setEng _ s).trans (changes_setWd _ _)

theorem changes_openExchange (s : State) : Changes s (openExchange s) := (changes_setWd _ s).trans (changes_setEng _ _)

/-! ### Every event is a sequence of elementary changes -/

theorem changes_call (slot : Slot) (ph : Phase) (n : Count) (s : State) :
    ∃ a t, call slot ph n s = .answered a t ∧ Changes s t := by
  cases h : s.deviceAt slot with
  | none => exact ⟨_, _, call_none h ph n, .refl⟩
  | some k => exact ⟨_, _, call_some h ph n, .single (.called s k slot ph n h)⟩

theorem changes_restartStop (s : State) : Changes s (restartStop s) := by
  unfold restartStop
  split
  · obtain ⟨a, t, hc, ht⟩ := changes_call s.eng.slot ⟨s.eng.dir, .stop⟩ s.eng.cnt s
    rw [hc]
    exact ht
  · exact .refl

theorem changes_addressMatch (slot : Slot) (dir : Dir) (s : State) : Changes s (addressMatch slot dir s) := by
  have ho : Changes s (opened slot dir s) :=
    (changes_restartStop s).trans ((changes_setEng _ _).trans (changes_setWd _ _))
  obtain ⟨a, t, hc, ht⟩ := changes_call slot ⟨dir, .start⟩ 0 (opened slot dir s)
  have hm : addressMatch slot dir s = (t.install a).emit (.ack a.ack) := by
    unfold addressMatch
    rw [show openTransaction slot dir (restartStop s) = opened slot dir s from rfl, hc]
  rw [hm]
  exact ho.trans (ht.trans ((changes_setEng _ t).trans (changes_ack _ _)))

theorem changes_addressEvent (b : BitVec 5) (slot : Slot) (dir : Dir) (s : State) :
    Changes s (addressEvent b slot dir s) := by
  unfold addressEvent
  split
  · exact changes_addressMatch slot dir s
  · exact .refl

theorem changes_shiftOut (s : State) : Changes s (shiftOut s) := by
  unfold shiftOut
  split
  · exact changes_tx _ s
  · split
    · exact changes_tx _ s
    · exact (changes_setEng _ s).trans (changes_tx _ _)

theorem changes_refill (s : State) : Changes s (refill s) := by
  obtain ⟨a, t, hc, ht⟩ := changes_call s.eng.slot ⟨.read, .boundary⟩ s.eng.cnt s
  unfold refill
  rw [hc]
  exact ht.trans ((changes_setEng _ t).trans (changes_shiftOut _))

theorem changes_sendByte (mNack : Bool) (s : State) : Changes s (sendByte mNack s) := by
  unfold sendByte
  split
  · exact (changes_openExchange s).trans (changes_tx _ _)
  · split
    · exact (changes_openExchange s).trans (changes_refill _)
    · exact (changes_openExchange s).trans (changes_shiftOut _)

theorem changes_deliverFull (s : State) : Changes s (deliverFull s) := by
  obtain ⟨a, t, hc, ht⟩ := changes_call s.eng.slot ⟨.write, .boundary⟩ s.eng.cnt s
  unfold deliverFull
  rw [hc]
  exact ht.trans ((changes_setEng _ t).trans (changes_ack _ _))

theorem changes_receiveByte (rx : Byte) (s : State) : Changes s (receiveByte rx s) := by
  have ho := changes_openExchange s
  unfold receiveByte
  split
  · exact ho.trans (changes_ack _ _)
  · split
    · exact ho.trans (changes_ack _ _)
    · next sp i _ =>
      have hs : Changes s ((openExchange s).storeByte sp i rx).countByte :=
        ho.trans ((Relation.ReflTransGen.single (.stored _ sp i rx)).trans (changes_setEng _ _))
      split
      · exact hs.trans (changes_deliverFull _)
      · exact hs.trans (changes_ack _ _)

theorem changes_dataEvent (rx : Byte) (mNack : Bool) (s : State) : Changes s (dataEvent rx mNack s) := by
  unfold dataEvent
  split
  · exact (changes_ack _ s).trans (changes_tx _ _)
  · exact changes_sendByte mNack s
  · exact changes_receiveByte rx s

theorem changes_endTransaction (kind : PhaseKind) (s : State) : Changes s (endTransaction kind s) := by
  unfold endTransaction
  split
  · exact .refl
  · obtain ⟨a, t, hc, ht⟩ := changes_call s.eng.slot ⟨s.eng.dir, kind⟩ s.eng.cnt s
    rw [hc]
    exact ht.trans (changes_clear t)

/-- A peripheral event is a sequence of elementary changes. -/
theorem changes_busEvent (e : BusEvent) (s : State) : Changes s (busEvent e s) := by
  cases e with
  | addr a => exact changes_addressEvent _ _ _ s
  | data rx mNack => exact changes_dataEvent rx mNack s
  | stop => exact changes_endTransaction .stop s
  | error => exact changes_endTransaction .error s

theorem changes_busEvents (es : List BusEvent) (s : State) : Changes s (busEvents es s) := by
  induction es generalizing s with
  | nil => exact .refl
  | cons e es ih =>
    unfold busEvents
    split
    · exact .refl
    · exact (changes_busEvent e s).trans (ih _)

theorem changes_watchdogStep (s : State) : Changes s (watchdogStep s) := by
  unfold watchdogStep
  split
  · split
    · exact (changes_setWd _ s).trans ((changes_emit rfl _).trans (changes_clear _))
    · exact changes_setWd _ s
  · exact .refl

theorem changes_gpiTick (s : State) : Changes s (gpiTick s) := by
  unfold gpiTick gpiPeriodic
  split
  · next hdue =>
    have h0 : Changes s (s.setGpiCount 0) := .single (.paced s 0 fun _ => by omega)
    split
    · exact h0.trans (.single (.sampled _))
    · exact h0
  · next hearly => exact .single (.paced s _ fun hlt => by omega)

/-- A tick is a sequence of elementary changes. -/
theorem changes_tickEvent (between : List BusEvent) (s : State) : Changes s (tickEvent between s) := by
  have h := (changes_watchdogStep s).trans (changes_busEvents between _)
  unfold tickEvent
  split
  · exact h
  · exact h.trans (changes_gpiTick _)

/-- An item that runs without a row is a sequence of elementary changes. -/
theorem changes_runItem (it : PortItem) (s : State) : Changes s (runItem it s) := by
  cases it with
  | event e => exact changes_busEvent e s
  | tick between => exact changes_tickEvent between s
  | phase code =>
    obtain ⟨a, t, hc, ht⟩ := changes_call s.eng.slot (phaseOf code) s.eng.cnt s
    simp only [runItem, hc, keepAnswer]
    exact ht.trans (changes_setAns a t)
  | frame ts => exact changes_busEvents _ s

/-! ### Operations -/

/-- A phase row is one call for the slot `eng.slot`, its settled answer kept (log 10). -/
theorem exec_decodePhase (k : DeviceKind) (ph : Phase) (n : Count) (s : State) :
    exec (decodePhase k ph n) s =
      .next ((calledState k s.eng.slot ph n s).setAns
        (settled ph (handler k ph n (s.emit (.call s.eng.slot ph n))).1)) := by
  rw [calledState, ← runPhase_eq]
  obtain ⟨d, kd⟩ := ph
  cases k <;> cases d <;> cases kd <;> rfl

/-- An operation does what its item does (log 11, log 25), or is a phase row. -/
theorem exec_runItem (i : Instr) (s : State) :
    exec i s = .next (runItem (encode s.ctx i) s) ∨ ∃ k ph n, i = decodePhase k ph n := by
  cases i with
  | evAddrW b slot | evAddrR b slot => exact .inl (by simp [encode, runItem, busEvent]; rfl)
  | evDataRx | evDataTx | evStop | evError | evTick => exact .inl rfl
  | eeWriteStart n => exact .inr ⟨.eeprom, ⟨.write, .start⟩, n, rfl⟩
  | eeWriteBufferFull n => exact .inr ⟨.eeprom, ⟨.write, .boundary⟩, n, rfl⟩
  | eeWriteStop n => exact .inr ⟨.eeprom, ⟨.write, .stop⟩, n, rfl⟩
  | eeWriteError n => exact .inr ⟨.eeprom, ⟨.write, .error⟩, n, rfl⟩
  | eeReadStart n => exact .inr ⟨.eeprom, ⟨.read, .start⟩, n, rfl⟩
  | eeReadBufferEmpty n => exact .inr ⟨.eeprom, ⟨.read, .boundary⟩, n, rfl⟩
  | eeReadStop n => exact .inr ⟨.eeprom, ⟨.read, .stop⟩, n, rfl⟩
  | eeReadError n => exact .inr ⟨.eeprom, ⟨.read, .error⟩, n, rfl⟩
  | adcWriteStart n => exact .inr ⟨.adc, ⟨.write, .start⟩, n, rfl⟩
  | adcWriteBufferFull n => exact .inr ⟨.adc, ⟨.write, .boundary⟩, n, rfl⟩
  | adcWriteStop n => exact .inr ⟨.adc, ⟨.write, .stop⟩, n, rfl⟩
  | adcWriteError n => exact .inr ⟨.adc, ⟨.write, .error⟩, n, rfl⟩
  | adcReadStart n => exact .inr ⟨.adc, ⟨.read, .start⟩, n, rfl⟩
  | adcReadBufferEmpty n => exact .inr ⟨.adc, ⟨.read, .boundary⟩, n, rfl⟩
  | adcReadStop n => exact .inr ⟨.adc, ⟨.read, .stop⟩, n, rfl⟩
  | adcReadError n => exact .inr ⟨.adc, ⟨.read, .error⟩, n, rfl⟩
  | gpiWriteStart n => exact .inr ⟨.gpi, ⟨.write, .start⟩, n, rfl⟩
  | gpiWriteBufferFull n => exact .inr ⟨.gpi, ⟨.write, .boundary⟩, n, rfl⟩
  | gpiWriteStop n => exact .inr ⟨.gpi, ⟨.write, .stop⟩, n, rfl⟩
  | gpiWriteError n => exact .inr ⟨.gpi, ⟨.write, .error⟩, n, rfl⟩
  | gpiReadStart n => exact .inr ⟨.gpi, ⟨.read, .start⟩, n, rfl⟩
  | gpiReadBufferEmpty n => exact .inr ⟨.gpi, ⟨.read, .boundary⟩, n, rfl⟩
  | gpiReadStop n => exact .inr ⟨.gpi, ⟨.read, .stop⟩, n, rfl⟩
  | gpiReadError n => exact .inr ⟨.gpi, ⟨.read, .error⟩, n, rfl⟩
  | sramWriteStart n => exact .inr ⟨.sram, ⟨.write, .start⟩, n, rfl⟩
  | sramWriteBufferFull n => exact .inr ⟨.sram, ⟨.write, .boundary⟩, n, rfl⟩
  | sramWriteStop n => exact .inr ⟨.sram, ⟨.write, .stop⟩, n, rfl⟩
  | sramWriteError n => exact .inr ⟨.sram, ⟨.write, .error⟩, n, rfl⟩
  | sramReadStart n => exact .inr ⟨.sram, ⟨.read, .start⟩, n, rfl⟩
  | sramReadBufferEmpty n => exact .inr ⟨.sram, ⟨.read, .boundary⟩, n, rfl⟩
  | sramReadStop n => exact .inr ⟨.sram, ⟨.read, .stop⟩, n, rfl⟩
  | sramReadError n => exact .inr ⟨.sram, ⟨.read, .error⟩, n, rfl⟩
  | eeWriteByte | eeArmHi | eeArmLo | eeArmData | eeCtrl | eeSetCursor | eeRead | adcCmd | adcRead | gpiSetMask | gpiRead
  | sramWrite | sramSetCursor | sramRead => exact .inl rfl

/-- An event row runs its event, whatever context it was decoded in (R95). -/
theorem exec_decodeEvent (c : Ctx) (e : BusEvent) (s : State) : exec (decodeEvent c e) s = .next (busEvent e s) := by
  cases e with
  | addr a => cases hd : dirOf a <;> simp only [decodeEvent, hd, busEvent] <;> rfl
  | data rx m => cases hd : c.dir <;> simp only [decodeEvent, hd] <;> rfl
  | stop | error => rfl

/-- Every operation answers a next state: a sequence of elementary changes, or what a phase row's one call leaves. -/
theorem exec_changes (i : Instr) (s : State) :
    (∃ t, exec i s = .next t ∧ Changes s t) ∨ ∃ k ph n, i = decodePhase k ph n :=
  (exec_runItem i s).imp_left fun h => ⟨_, h, changes_runItem _ s⟩

/-- A reflexive and transitive relation that every elementary change and every phase row's call meet is met by every
operation. -/
theorem exec_rule {R : State → State → Prop} (hrefl : ∀ s, R s s) (htrans : ∀ {s t u}, R s t → R t u → R s u)
    (hstep : ∀ {s t}, Change s t → R s t) (hcall : ∀ k ph n s, R s (calledState k s.eng.slot ph n s)) {i : Instr}
    {s t : State} (h : exec i s = .next t) : R s t := by
  rcases exec_changes i s with ⟨u, hu, hc⟩ | ⟨k, ph, n, rfl⟩
  · obtain rfl : u = t := Host.Outcome.next.inj (hu.symm.trans h)
    exact hc.rule hrefl htrans hstep
  · obtain rfl := Host.Outcome.next.inj ((exec_decodePhase k ph n s).symm.trans h)
    exact htrans (hcall k ph n s) (hstep (.regs _ _ _ _))

/-! ### Registry, parameters, fault, log -/

/-- What every step keeps (R31, R39, R43, R285). -/
structure Kept (s t : State) : Prop where
  reg : t.reg = s.reg
  cfg : t.cfg = s.cfg
  fault : t.fault = s.fault
  log : ∃ rs, t.log = s.log ++ rs

theorem Kept.refl (s : State) : Kept s s := ⟨rfl, rfl, rfl, [], (List.append_nil _).symm⟩

theorem Kept.trans {s t u : State} (h : Kept s t) (g : Kept t u) : Kept s u where
  reg := g.reg.trans h.reg
  cfg := g.cfg.trans h.cfg
  fault := g.fault.trans h.fault
  log := by
    obtain ⟨rs, hrs⟩ := h.log
    obtain ⟨qs, hqs⟩ := g.log
    exact ⟨rs ++ qs, by rw [hqs, hrs, List.append_assoc]⟩

theorem DeviceFrame.kept {k : DeviceKind} {s t : State} (h : DeviceFrame k s t) : Kept s t :=
  ⟨h.reg, h.cfg, h.fault, h.log⟩

theorem Change.kept {s t : State} (h : Change s t) : Kept s t := by
  cases h with
  | regs | paced => exact { Kept.refl s with }
  | bus r _ => exact { Kept.refl s with log := ⟨[r], rfl⟩ }
  | stored sp i v =>
    obtain ⟨-, -, -, hreg, hfault, hcfg, -, hlog, -⟩ := storeByte_frame sp i v s
    exact ⟨hreg, hcfg, hfault, [], by rw [hlog, List.append_nil]⟩
  | called k slot ph n _ => exact (called_frame k slot ph n s).kept
  | sampled => exact (gpiSample_frame s).kept

theorem Changes.kept {s t : State} (h : Changes s t) : Kept s t := h.rule Kept.refl Kept.trans Change.kept

theorem exec_kept {i : Instr} {s t : State} (h : exec i s = .next t) : Kept s t :=
  exec_rule Kept.refl Kept.trans Change.kept (fun k ph n s => (called_frame k s.eng.slot ph n s).kept) h

/-- Every operation answers a next state (R285, R320). -/
theorem exec_next (i : Instr) (s : State) : ∃ t, exec i s = .next t := by
  rcases exec_changes i s with ⟨t, ht, -⟩ | ⟨k, ph, n, rfl⟩
  · exact ⟨t, ht⟩
  · exact ⟨_, exec_decodePhase k ph n s⟩

/-- What one step comes to: it waits, or runs the oldest pending item with the item taken out. -/
theorem step_cases {s t : State} (h : step s = .next t) :
    t = s ∨ ∃ rest, (∃ i, exec i (s.setInbox rest) = .next t) ∨ ∃ it, t = runItem it (s.setInbox rest) := by
  unfold step at h
  split at h
  · cases h
  · split at h
    · exact .inl (Host.Outcome.next.inj h).symm
    · next it rest _ =>
      split at h
      · exact .inr ⟨rest, .inl ⟨_, h⟩⟩
      · exact .inr ⟨rest, .inr ⟨it, (Host.Outcome.next.inj h).symm⟩⟩

/-- Settles O11: every elementary change keeps the registry, the parameters and the fault, and appends to the log. -/
theorem stepsAppendToTheLogAndKeepTheRegistry : Obligations.StepsAppendToTheLogAndKeepTheRegistry := by
  refine ⟨fun s t h => ?_, fun s i => ?_⟩
  · have hk : Kept s t := by
      rcases step_cases h with rfl | ⟨rest, ⟨i, hi⟩ | ⟨it, rfl⟩⟩
      · exact .refl _
      · exact { exec_kept hi with }
      · exact { (changes_runItem it (s.setInbox rest)).kept with }
    exact ⟨hk.reg, hk.cfg, hk.log⟩
  · obtain ⟨t, ht⟩ := exec_next i s
    exact ⟨t, ht, (exec_kept ht).fault⟩

/-! ### Steps and ignored addresses -/

/-- Settles O5. -/
theorem stepRunsTheDecodedOperation : Obligations.StepRunsTheDecodedOperation := by
  intro s it rest i hf hq hd
  simp only [step, hf, hq, hd]

/-- Nothing of a transaction the block ignores is an event, its stop included (R82, R96, log 16). -/
theorem tokenEvents_ignored (p : Params) {ts : List Token}
    (h : ∀ t ∈ ts, t ≠ .stop ∧ t ≠ .restart ∧ t ≠ .start ∧ t ≠ .error) :
    tokenEvents p .ignored ts = [] ∧ tokenEvents p .ignored (ts ++ [.stop]) = [] := by
  induction ts with
  | nil => exact ⟨rfl, rfl⟩
  | cons t ts ih =>
    have hafter : Heard.ignored.after p t = .ignored := by
      have ht := h t List.mem_cons_self
      cases t <;> simp_all [Heard.after]
    obtain ⟨h1, h2⟩ := ih fun q hq => h q (List.mem_cons_of_mem t hq)
    constructor
    · rw [tokenEvents, hafter, h1]
      rfl
    · rw [List.cons_append, tokenEvents, hafter, h2]
      rfl

/-- The tokens of a frame to an address the block does not answer. -/
theorem tokenEvents_unanswered {p : Params} {a : Byte} (h : p.selects (windowOf a) (slotOf a) = false)
    (ts : List Token) : tokenEvents p .address (.byte a :: ts) = tokenEvents p .ignored ts := by
  simp [tokenEvents, Heard.event, Heard.after, h]

/-- Settles O6: the cases of `step` and `runItem`, and no token after an unanswered address is an event. -/
theorem stepWithoutAnOperation : Obligations.StepWithoutAnOperation := by
  refine ⟨fun s f hf => ?_, fun s hf hq => ?_, fun s it rest why hf hq hd => ?_, fun s ts => rfl,
    fun s code hn => ?_, fun s a ts hsel hts => ?_⟩
  · simp only [step, hf]
  · simp only [step, hf, hq]
  · simp only [step, hf, hq, hd]
  · rw [runItem, call_none hn]
    rfl
  · obtain ⟨h1, h2⟩ := tokenEvents_ignored s.cfg hts
    simp only [runItem, runTokens, List.cons_append, tokenEvents_unanswered hsel, h1, h2, busEvents, and_self]

theorem selects_eq_false {p : Params} {b : BitVec 5} {slot : Slot} (h : b ≠ p.base ∨ b = 0 ∧ slot = 0 ∨ b = 0b11110) :
    p.selects b slot = false := by
  rcases h with h | ⟨rfl, rfl⟩ | rfl <;> simp [Params.selects, *]

/-- Settles O16: an address the block does not select is no event. -/
theorem addressOutsideTheWindowChangesNothing : Obligations.AddressOutsideTheWindowChangesNothing := by
  intro s b slot h
  have hs := selects_eq_false h
  exact ⟨congrArg _ (addressEvent_ignored hs .write), congrArg _ (addressEvent_ignored hs .read)⟩

end Sys2Proof.Machine
end

section
/-! The records of a device and the laws over every operation that read them: the GPI line, latch and arming
(spec/45_gpi.md R241, R251, R252) and the EEPROM's arm registers (spec/43_eeprom.md R196). -/

namespace Sys2Proof.Machine

/-! ### Readings of appended records -/

@[simp] theorem callsOf_append (rs qs : List Record) : callsOf (rs ++ qs) = callsOf rs ++ callsOf qs :=
  List.filterMap_append

@[simp] theorem acksOf_append (rs qs : List Record) : acksOf (rs ++ qs) = acksOf rs ++ acksOf qs :=
  List.filterMap_append

@[simp] theorem txBytes_append (rs qs : List Record) : txBytes (rs ++ qs) = txBytes rs ++ txBytes qs :=
  List.filterMap_append

@[simp] theorem persistWrites_append (rs qs : List Record) :
    persistWrites (rs ++ qs) = persistWrites rs ++ persistWrites qs :=
  List.filterMap_append

theorem irqTrace_append (level : Bool) (rs qs : List Record) :
    irqTrace level (rs ++ qs) = (irqTrace level rs).bind fun v => irqTrace v qs := by
  induction rs generalizing level with
  | nil => rfl
  | cons r rs ih =>
    cases r with
    | irq v =>
      by_cases hv : v = level
      · simp [irqTrace, hv]
      · simp [irqTrace, hv, ih]
    | call | ack | tx | persistWrite | superviseCtrl | periphRestart => exact ih level

/-- A change of the line, or none, is one consistent step of the trace. -/
theorem irqTrace_irqRecords (old new : Bool) : irqTrace old (irqRecords old new) = some new := by
  unfold irqRecords
  split
  · next h => rw [h]; rfl
  · next h => simp [irqTrace, h]

/-! ### The records of a handler -/

/-- The records a device writes itself (R43). -/
def Record.ofDevice : Record → Bool
  | .persistWrite _ _ => true
  | .superviseCtrl _ => true
  | .irq _ => true
  | .call _ _ _ => false
  | .ack _ => false
  | .tx _ => false
  | .periphRestart => false

/-- Device records, with every change of the GPI line among them. -/
def DeviceLog (s t : State) : Prop :=
  ∃ rs, t.log = s.log ++ rs ∧ (∀ r ∈ rs, r.ofDevice = true) ∧ irqTrace s.gpi.irq rs = some t.gpi.irq

theorem DeviceLog.of_same {s t : State} (hlog : t.log = s.log) (hgpi : t.gpi = s.gpi) : DeviceLog s t :=
  ⟨[], by rw [hlog, List.append_nil], by simp, by rw [hgpi]; rfl⟩

theorem DeviceLog.trans {s t u : State} (h : DeviceLog s t) (g : DeviceLog t u) : DeviceLog s u := by
  obtain ⟨rs, hlog, hdev, hirq⟩ := h
  obtain ⟨qs, glog, gdev, girq⟩ := g
  refine ⟨rs ++ qs, by rw [glog, hlog, List.append_assoc], fun r hr => ?_, ?_⟩
  · exact (List.mem_append.mp hr).elim (hdev r) (gdev r)
  · rw [irqTrace_append, hirq]
    exact girq

theorem putGpi_deviceLog (g : Gpi) (s : State) : DeviceLog s (s.putGpi g) := by
  rw [putGpi_eq]
  refine ⟨irqRecords s.gpi.irq g.irq, rfl, fun r hr => ?_, irqTrace_irqRecords _ _⟩
  unfold irqRecords at hr
  split at hr
  · cases hr
  · rw [List.mem_singleton.mp hr]
    rfl

theorem gpiSample_deviceLog (s : State) : DeviceLog s (gpiSample s) :=
  (DeviceLog.of_same (t := s.noteRead .pinRead) rfl rfl).trans (putGpi_deviceLog _ _)

theorem gpiFinish_deviceLog (s : State) : DeviceLog s (gpiFinish s) :=
  (putGpi_deviceLog _ s).trans (gpiSample_deviceLog _)

@[simp] theorem eeByte_log (a : U16) (s : State) : (eeByte a s).2.log = s.log := by
  unfold eeByte
  split
  · rfl
  · split <;> rfl

@[simp] theorem eeBytes_log (n : Nat) (a : U16) (s : State) : (eeBytes n a s).2.log = s.log := by
  induction n generalizing a s with
  | zero => rfl
  | succ n ih => exact (ih _ _).trans (eeByte_log a s)

theorem fillWindow_deviceLog (c : U16) (s : State) : DeviceLog s (fillWindow c s) :=
  .of_same (eeBytes_log _ c s) ((fillWindow_frame c s).gpi (by decide))

theorem eeCommit_deviceLog (a : U16) (d : Byte) (s : State) : DeviceLog s (eeCommit a d s).2 := by
  unfold eeCommit eeWrite
  split_ifs
  · exact .of_same rfl rfl
  · exact .of_same rfl rfl
  · exact .of_same rfl rfl
  · exact ⟨[.superviseCtrl d], rfl, by simp [Record.ofDevice], rfl⟩
  · exact ⟨[.persistWrite _ d], rfl, by simp [Record.ofDevice], rfl⟩
  · exact .of_same rfl rfl

theorem adcConvert_log (s : State) : (adcConvert s).2.log = s.log := by
  unfold adcConvert
  split <;> rfl

theorem handler_eeprom_deviceLog (ph : Phase) (n : Count) (s : State) : DeviceLog s (handler .eeprom ph n s).2 := by
  obtain ⟨_ | _, _ | _⟩ := ph
  · exact .of_same rfl rfl
  · exact (DeviceLog.of_same (t := s.setEe { s.ee with cursor := s.ee.stagedAddr }) rfl rfl).trans
      (eeCommit_deviceLog _ _ _)
  · simp only [handler, eeWriteStop]
    split <;> exact .of_same rfl rfl
  · exact .of_same rfl rfl
  · exact fillWindow_deviceLog _ s
  · exact (DeviceLog.of_same (t := eeAdvance n s) rfl rfl).trans (fillWindow_deviceLog _ _)
  · exact .of_same rfl rfl
  · exact .of_same rfl rfl

theorem handler_gpi_deviceLog (ph : Phase) (n : Count) (s : State) : DeviceLog s (handler .gpi ph n s).2 := by
  obtain ⟨_ | _, _ | _⟩ := ph
  · exact putGpi_deviceLog _ s
  · exact putGpi_deviceLog _ s
  · exact gpiFinish_deviceLog s
  · exact gpiFinish_deviceLog s
  · exact ((putGpi_deviceLog _ s).trans (gpiSample_deviceLog _)).trans (putGpi_deviceLog _ _)
  · exact .of_same rfl rfl
  · exact gpiFinish_deviceLog s
  · exact gpiFinish_deviceLog s

theorem handler_adc_log (ph : Phase) (n : Count) (s : State) : (handler .adc ph n s).2.log = s.log := by
  obtain ⟨_ | _, _ | _⟩ := ph
  case read.start => exact adcConvert_log s
  all_goals rfl

theorem handler_sram_log (ph : Phase) (n : Count) (s : State) : (handler .sram ph n s).2.log = s.log := by
  obtain ⟨_ | _, _ | _⟩ := ph <;> simp only [handler, sramWriteBufferFull, sramWriteStop, sramWriteError, sramWriteEnd]
  case write.boundary | write.stop | write.error => split <;> rfl
  all_goals rfl

/-- A handler writes device records only, and logs every change of the GPI line (R43, R241). -/
theorem handler_deviceLog (k : DeviceKind) (ph : Phase) (n : Count) (s : State) : DeviceLog s (handler k ph n s).2 := by
  cases k with
  | eeprom => exact handler_eeprom_deviceLog ph n s
  | adc => exact .of_same (handler_adc_log ph n s) ((handler_frame .adc ph n s).gpi (by decide))
  | gpi => exact handler_gpi_deviceLog ph n s
  | sram => exact .of_same (handler_sram_log ph n s) ((handler_frame .sram ph n s).gpi (by decide))

/-- The records of a call: its Call record, then the device's own. -/
theorem calledState_log (k : DeviceKind) (slot : Slot) (ph : Phase) (n : Count) (s : State) :
    ∃ rs, (calledState k slot ph n s).log = s.log ++ .call slot ph n :: rs ∧ (∀ r ∈ rs, r.ofDevice = true) ∧
      irqTrace s.gpi.irq rs = some (calledState k slot ph n s).gpi.irq := by
  obtain ⟨rs, hlog, hdev, hirq⟩ := handler_deviceLog k ph n (s.emit (.call slot ph n))
  exact ⟨rs, by rw [calledState, hlog, State.emit_log, List.append_assoc]; rfl, hdev, hirq⟩

/-- A device's own records are no call, no acknowledge and no byte sent. -/
theorem readings_of_device {rs : List Record} (h : ∀ r ∈ rs, r.ofDevice = true) :
    callsOf rs = [] ∧ acksOf rs = [] ∧ txBytes rs = [] := by
  refine ⟨List.filterMap_eq_nil_iff.mpr fun r hr => ?_, List.filterMap_eq_nil_iff.mpr fun r hr => ?_,
    List.filterMap_eq_nil_iff.mpr fun r hr => ?_⟩ <;>
  · have hd := h r hr
    cases r <;> first | rfl | cases hd

/-! ### Laws over the log -/

/-- The operation appended records that meet `P` with the GPI's state before and after. -/
def GpiLogged (P : List Record → Gpi → Gpi → Prop) (s t : State) : Prop :=
  ∃ rs, t.log = s.log ++ rs ∧ P rs s.gpi t.gpi

theorem exec_gpiLogged {P : List Record → Gpi → Gpi → Prop} (hnil : ∀ g, P [] g g)
    (happ : ∀ {rs qs g g' g''}, P rs g g' → P qs g' g'' → P (rs ++ qs) g g'')
    (hbus : ∀ r g, r.ofBus = true → P [r] g g)
    (hstored : ∀ sp i v s, P [] s.gpi (State.storeByte sp i v s).gpi)
    (hsampled : ∀ v g, P (irqRecords g.irq (g.sampled v).irq) g (g.sampled v))
    (hcalled : ∀ k slot ph n s rs, (∀ r ∈ rs, r.ofDevice = true) →
      irqTrace s.gpi.irq rs = some (calledState k slot ph n s).gpi.irq →
      P (.call slot ph n :: rs) s.gpi (calledState k slot ph n s).gpi)
    {i : Instr} {s t : State} (h : exec i s = .next t) : GpiLogged P s t := by
  have hcall : ∀ k slot ph n s, GpiLogged P s (calledState k slot ph n s) := fun k slot ph n s => by
    obtain ⟨rs, hlog, hdev, hirq⟩ := calledState_log k slot ph n s
    exact ⟨_, hlog, hcalled k slot ph n s rs hdev hirq⟩
  refine exec_rule (fun s => ⟨[], (List.append_nil _).symm, hnil _⟩) (fun h g => ?_) (fun hc => ?_)
    (fun k ph n s => hcall k _ ph n s) h
  · obtain ⟨rs, hlog, hp⟩ := h
    obtain ⟨qs, glog, gp⟩ := g
    exact ⟨rs ++ qs, by rw [glog, hlog, List.append_assoc], happ hp gp⟩
  · cases hc with
    | regs | paced => exact ⟨[], (List.append_nil _).symm, hnil _⟩
    | bus r hr => exact ⟨[r], rfl, hbus r _ hr⟩
    | stored sp i v =>
      obtain ⟨-, -, -, -, -, -, -, hlog, -⟩ := storeByte_frame sp i v _
      exact ⟨[], by rw [hlog, List.append_nil], hstored sp i v _⟩
    | called k slot ph n _ => exact hcall k slot ph n _
    | sampled =>
      rw [gpiSample_eq]
      exact ⟨_, rfl, hsampled _ _⟩

/-! ### The GPI line -/

theorem gpi_irq_iff (g : Gpi) :
    g.irq = true ↔ g.armed = true ∧ ∃ i, i < 8 ∧ g.trans.getLsbD i = true ∧ g.mask.getLsbD i = true := by
  have hbits : (g.trans &&& g.mask) ≠ 0#8 ↔ ∃ i, i < 8 ∧ g.trans.getLsbD i = true ∧ g.mask.getLsbD i = true := by
    constructor
    · intro hne
      by_contra hno
      refine hne (BitVec.eq_of_getLsbD_eq fun i hi => ?_)
      rw [BitVec.getLsbD_and, BitVec.getLsbD_zero, Bool.and_eq_false_iff]
      by_contra hand
      simp only [not_or, Bool.not_eq_false] at hand
      exact hno ⟨i, hi, hand⟩
    · rintro ⟨i, -, ht, hm⟩ h0
      have hand := BitVec.getLsbD_and (x := g.trans) (y := g.mask) (i := i)
      rw [h0, ht, hm] at hand
      simp at hand
  simpa [Gpi.irq] using fun _ => hbits

theorem storeByte_irq (sp : Space) (i : Nat) (v : Byte) (s : State) : (s.storeByte sp i v).gpi.irq = s.gpi.irq := by
  cases sp <;> rfl

/-- Settles O51: the line is bitwise as R241 says, and every elementary change logs the line's change. -/
theorem everyChangeOfTheLineIsLogged : Obligations.EveryChangeOfTheLineIsLogged := by
  refine ⟨fun s => ⟨gpi_irq_iff s.gpi, ?_⟩, fun s t i h => ?_⟩
  · unfold State.irqPin
    cases s.gpi.irq <;> cases s.cfg.gpiIrqLevel <;> rfl
  · refine exec_gpiLogged (P := fun rs g g' => irqTrace g.irq rs = some g'.irq) (fun g => rfl) (fun h g => ?_)
      (fun r g hr => ?_) (fun sp i v s => ?_) (fun v g => irqTrace_irqRecords _ _)
      (fun k slot ph n s rs _ hirq => hirq) h
    · rw [irqTrace_append, h]
      exact g
    · cases r <;> first | rfl | cases hr
    · rw [storeByte_irq]
      rfl

/-! ### The latch and the arming -/

/-- No handler but a ReadStart takes a bit from the latch (R246, R251). -/
theorem calledState_trans (k : DeviceKind) (slot : Slot) {ph : Phase} (h : ph ≠ ⟨.read, .start⟩) (n : Count) (s : State) :
    s.gpi.trans ||| (calledState k slot ph n s).gpi.trans = (calledState k slot ph n s).gpi.trans := by
  by_cases hk : k = .gpi
  · subst hk
    obtain ⟨_ | _, _ | _⟩ := ph
    case read.start => exact absurd rfl h
    all_goals
      simp [calledState, handler, gpiWriteStart, gpiWriteBufferFull, gpiWriteStop, gpiWriteError, gpiReadBufferEmpty,
        gpiReadStop, gpiReadError, gpiFinish, gpiSample_eq, Gpi.sampled, ← BitVec.or_assoc]
  · rw [calledState, (handler_frame k ph n _).gpi hk]
    exact BitVec.or_self

/-- Settles O50: every elementary change but a ReadStart only adds bits to the latch. -/
theorem latchIsClearedOnlyByARead : Obligations.LatchIsClearedOnlyByARead := by
  intro s t i h
  refine exec_gpiLogged
    (P := fun rs g g' => (∀ c ∈ callsOf rs, c.2.1 ≠ ⟨.read, .start⟩) → g.trans ||| g'.trans = g'.trans)
    (fun g _ => BitVec.or_self) (fun hp hq hno => ?_) (fun r g _ _ => BitVec.or_self) (fun sp i v s _ => ?_)
    (fun v g _ => ?_) (fun k slot ph n s rs _ _ hno => ?_) h
  · simp only [callsOf_append, List.mem_append] at hno
    have hp' := hp fun c hc => hno c (.inl hc)
    have hq' := hq fun c hc => hno c (.inr hc)
    rw [← hq', ← BitVec.or_assoc, hp']
  · cases sp <;> exact BitVec.or_self
  · simp [Gpi.sampled, ← BitVec.or_assoc]
  · exact calledState_trans k slot (hno _ List.mem_cons_self) n s

/-- No handler but a Stop's or an Error's enables signalling (R242 to R249, R252). -/
theorem calledState_armed (k : DeviceKind) (slot : Slot) {ph : Phase} (h : ph.kind = .start ∨ ph.kind = .boundary)
    (n : Count) {s : State} (hs : s.gpi.armed = false) : (calledState k slot ph n s).gpi.armed = false := by
  by_cases hk : k = .gpi
  · subst hk
    obtain ⟨_ | _, _ | _⟩ := ph
    case write.stop | write.error | read.stop | read.error => simp at h
    all_goals
      simp [calledState, handler, gpiWriteStart, gpiWriteBufferFull, gpiReadStart, gpiReadBufferEmpty, gpiSample_eq,
          Gpi.sampled, Gpi.captured, hs]
  · rw [calledState, (handler_frame k ph n _).gpi hk]
    exact hs

/-- Settles O52: every elementary change but a Stop or an Error leaves signalling disabled. -/
theorem signallingNeedsAnEndedTransaction : Obligations.SignallingNeedsAnEndedTransaction := by
  intro s t i h harm
  have hlaw : GpiLogged (fun rs g g' => g.armed = false →
      (∀ c ∈ callsOf rs, c.2.1.kind = .start ∨ c.2.1.kind = .boundary) → g'.armed = false) s t := by
    refine exec_gpiLogged (fun g hg _ => hg) (fun hp hq hg hno => ?_) (fun r g _ hg _ => hg) (fun sp i v s hg _ => ?_)
      (fun v g hg _ => hg) (fun k slot ph n s rs _ _ hg hno => ?_) h
    · simp only [callsOf_append, List.mem_append] at hno
      exact hq (hp hg fun c hc => hno c (.inl hc)) fun c hc => hno c (.inr hc)
    · cases sp <;> exact hg
    · exact calledState_armed k slot (hno _ List.mem_cons_self) n hg
  obtain ⟨rs, hlog, hp⟩ := hlaw
  refine ⟨rs, hlog, fun hno => ?_⟩
  have hoff := hp harm hno
  exact ⟨hoff, by simp [Gpi.irq, hoff]⟩

end Sys2Proof.Machine
end

section
/-! The invariant of the reachable states (spec/10_state.md, spec/41_transaction_engine.md, spec/42_bus_watchdog.md):
the part every elementary change keeps, and the engine's part, which each event keeps as a whole. -/

namespace Sys2Proof.Machine

/-! ### The two parts of the invariant -/

/-- The part of the invariant that speaks of no engine register. -/
structure StaticInv (s : State) : Prop where
  cfg : s.cfg.wf = true
  reg : registryWf s.reg = true
  pace : s.gpiCount < s.cfg.gpiPeriod
  win : s.ee.win.length = s.cfg.eeWindow.toNat
  mem : Memory.wf s.sram.mem = true
  fault : s.fault = none

/-- The part of the invariant that speaks of the engine and the watchdog. -/
structure EngineInv (s : State) : Prop where
  grant : grantInv s = true
  bound : grantBound s = true
  idle : idleInv s = true
  watchdog : watchdogInv s = true

theorem inv_iff (s : State) : inv s = true ↔ StaticInv s ∧ EngineInv s := by
  simp only [inv, Bool.and_eq_true, decide_eq_true_eq, beq_iff_eq]
  constructor
  · rintro ⟨⟨⟨⟨⟨⟨⟨⟨⟨hcfg, hreg⟩, hgrant⟩, hbound⟩, hidle⟩, hwd⟩, hpace⟩, hwin⟩, hmem⟩, hfault⟩
    exact ⟨⟨hcfg, hreg, hpace, hwin, hmem, hfault⟩, ⟨hgrant, hbound, hidle, hwd⟩⟩
  · rintro ⟨⟨hcfg, hreg, hpace, hwin, hmem, hfault⟩, ⟨hgrant, hbound, hidle, hwd⟩⟩
    exact ⟨⟨⟨⟨⟨⟨⟨⟨⟨hcfg, hreg⟩, hgrant⟩, hbound⟩, hidle⟩, hwd⟩, hpace⟩, hwin⟩, hmem⟩, hfault⟩

theorem inv_fault {s : State} (h : inv s = true) : s.fault = none := ((inv_iff s).mp h).1.fault

theorem inv_grantInv {s : State} (h : inv s = true) : grantInv s = true := ((inv_iff s).mp h).2.grant

/-- What admissible parameters give the invariant (R7, R25). -/
theorem Params.wf_bounds {p : Params} (h : p.wf = true) :
    1 ≤ p.timeout ∧ 1 ≤ p.gpiPeriod ∧ 1 ≤ p.sramPage ∧ p.eeWindow ≠ 0 ∧ p.eeWindow.toNat ≤ 512 := by
  simp only [Params.wf, Bool.and_eq_true, decide_eq_true_eq, bne_iff_ne] at h
  obtain ⟨⟨⟨⟨⟨⟨⟨htime, hper⟩, hpage⟩, hwin⟩, hmax⟩, -⟩, -⟩, -⟩ := h
  exact ⟨htime, hper, hpage, hwin, hmax⟩

/-! ### Elementary changes keep the static part -/

theorem DeviceFrame.static {k : DeviceKind} {s t : State} (h : DeviceFrame k s t) (hs : StaticInv s) : StaticInv t where
  cfg := by rw [h.cfg]; exact hs.cfg
  reg := by rw [h.reg]; exact hs.reg
  pace := by rw [h.gpiCount, h.cfg]; exact hs.pace
  win := by
    rw [h.cfg]
    rcases h.win with hw | hw
    · rw [hw, hs.win]
    · exact hw
  mem := by rw [h.mem]; exact hs.mem
  fault := by rw [h.fault]; exact hs.fault

theorem storeByte_mem_wf (sp : Space) (i : Nat) (v : Byte) {s : State} (h : Memory.wf s.sram.mem = true) :
    Memory.wf (s.storeByte sp i v).sram.mem = true := by
  cases sp with
  | sram => exact Memory.wf_write h (Nat.mod_lt i (by decide))
  | eeStage | eeWin | adcStage | adcRes | gpiStage | gpiRbuf | sramStage => exact h

theorem storeByte_static (sp : Space) (i : Nat) (v : Byte) {s : State} (hs : StaticInv s) :
    StaticInv (s.storeByte sp i v) := by
  obtain ⟨-, -, hcount, hreg, hfault, hcfg, -, -, -, -, -, -, -, -, -, hwin, -⟩ := storeByte_frame sp i v s
  exact
    { cfg := by rw [hcfg]; exact hs.cfg
      reg := by rw [hreg]; exact hs.reg
      pace := by rw [hcount, hcfg]; exact hs.pace
      win := by rw [hwin, hcfg]; exact hs.win
      mem := storeByte_mem_wf sp i v hs.mem
      fault := by rw [hfault]; exact hs.fault }

theorem Change.static {s t : State} (h : Change s t) (hs : StaticInv s) : StaticInv t := by
  cases h with
  | regs | bus => exact { hs with }
  | paced n hn => exact { hs with pace := hn hs.pace }
  | stored sp i v => exact storeByte_static sp i v hs
  | called k slot ph n _ => exact (called_frame k slot ph n s).static hs
  | sampled => exact (gpiSample_frame s).static hs

theorem Changes.static {s t : State} (h : Changes s t) : StaticInv s → StaticInv t :=
  h.rule (fun _ hs => hs) (fun h g hs => g (h hs)) Change.static

/-! ### The engine's part -/

/-- The engine's part reads the engine, the watchdog, the parameters and the registry only. -/
theorem EngineInv.congr {s t : State} (hs : EngineInv s) (he : t.eng = s.eng) (hw : t.wd = s.wd) (hc : t.cfg = s.cfg)
    (hr : t.reg = s.reg) : EngineInv t := by
  obtain ⟨hgrant, hbound, hidle, hwd⟩ := hs
  exact
    ⟨by simpa only [grantInv, State.deviceAt, he, hc, hr] using hgrant, by simpa only [grantBound, he] using hbound,
      by simpa only [idleInv, he] using hidle, by simpa only [watchdogInv, he, hw, hc] using hwd⟩

/-- The engine Idle, as a stop, an error or an expiry leaves it (R140). -/
theorem engineInv_clear (s : State) : EngineInv s.clear := ⟨rfl, rfl, rfl, rfl⟩

theorem Space.size_le {p : Params} (h : p.wf = true) (sp : Space) : sp.size p ≤ Config.largestGrant := by
  obtain ⟨-, -, -, -, hmax⟩ := Params.wf_bounds h
  cases sp with
  | eeWin => exact hmax
  | eeStage | adcStage | adcRes | gpiStage | gpiRbuf | sram | sramStage => simp [Space.size, Config.largestGrant, Config.sramSize]

/-- A well-formed grant is bounded by its space (R25). -/
theorem grantBound_of_grantInv {s : State} (hc : s.cfg.wf = true) (h : grantInv s = true) : grantBound s = true := by
  unfold grantBound
  cases hg : s.eng.grant with
  | none => rfl
  | some w =>
    obtain ⟨hfit, -, -⟩ := grantInv_some h hg
    have hsize := w.space.size_le hc
    exact decide_eq_true (by omega)

/-- A transaction open, its watchdog just armed and its grant well formed: what every event of a transaction leaves. -/
structure Live (s : State) : Prop where
  phase : s.eng.phase ≠ .idle
  wd : s.wd = armedWatchdog s.cfg
  grant : grantInv s = true

theorem Live.engineInv {s : State} (h : Live s) (hc : s.cfg.wf = true) : EngineInv s := by
  obtain ⟨htime, -⟩ := Params.wf_bounds hc
  refine ⟨h.grant, grantBound_of_grantInv hc h.grant, ?_, ?_⟩
  · simp [idleInv, h.phase]
  · simp [watchdogInv, h.wd, armedWatchdog, h.phase, htime]

theorem Live.emit {s : State} (h : Live s) (r : Record) : Live (s.emit r) := ⟨h.phase, h.wd, h.grant⟩

/-- An answered call's grant installed (R111, R122). -/
theorem live_install {ph : Phase} {n : Count} {s : State} (hp : s.eng.phase ≠ .idle) (hw : s.wd = armedWatchdog s.cfg) :
    ∃ a t, call s.eng.slot ph n s = .answered a t ∧ Live (t.install a) := by
  obtain ⟨a, t, hcall, ⟨k, -, hf⟩, hgrant⟩ := call_answered s.eng.slot ph n s
  refine ⟨a, t, hcall, by simpa [hf.eng] using hp, by simpa [hf.wd, hf.cfg] using hw, ?_⟩
  obtain ⟨hnone, hcap⟩ | ⟨w, hsome, hlen, hne, hfit, hdev⟩ := hgrant
  · simp [grantInv, hnone, hcap]
  · have hdev' : t.deviceAt s.eng.slot = some w.space.owner := by rw [State.deviceAt, hf.reg]; exact hdev
    have hinst : (t.install a).deviceAt s.eng.slot = some w.space.owner := hdev'
    have hne' : w.len ≠ 0#16 := hne
    simp [grantInv, hsome, ← hlen, hne', hf.cfg, hf.eng, hfit, hinst]

/-- Counting a granted byte keeps `eng.cnt + eng.rem = g.len` (R26). -/
theorem Live.countByte {s : State} (h : Live s) (hr : s.eng.rem ≠ 0) : Live s.countByte := by
  refine ⟨h.phase, h.wd, ?_⟩
  have hgrant := h.grant
  have hpos : s.eng.rem.toNat ≠ 0 := fun h0 => hr (BitVec.eq_of_toNat_eq h0)
  have hcount : ∀ w : Win, s.eng.cnt.toNat + s.eng.rem.toNat = w.len.toNat →
      (s.eng.cnt + 1).toNat + (s.eng.rem - 1).toNat = w.len.toNat := fun w hsum => by
    have hlt := w.len.isLt
    bv_omega
  unfold grantInv at hgrant ⊢
  simp only [State.countByte_eng, State.countByte_cfg]
  cases hg : s.eng.grant with
  | none => simp_all
  | some w =>
    simp only [hg, Bool.and_eq_true, decide_eq_true_eq (p := _ = _)] at hgrant ⊢
    obtain ⟨⟨hfit, hsum⟩, hdev⟩ := hgrant
    exact ⟨⟨hfit, decide_eq_true (hcount w hsum)⟩, hdev⟩

theorem live_openExchange {s : State} (h : grantInv s = true) : Live (openExchange s) :=
  ⟨by simp [openExchange], rfl, h⟩

theorem Live.storeByte {s : State} (h : Live s) (sp : Space) (i : Nat) (v : Byte) : Live (s.storeByte sp i v) := by
  cases sp <;> exact ⟨h.phase, h.wd, h.grant⟩

theorem Live.shiftOut {s : State} (h : Live s) : Live (shiftOut s) := by
  unfold Machine.shiftOut
  split
  · exact h.emit _
  · next hr =>
    split
    · exact h.emit _
    · exact (h.countByte hr).emit _

theorem Live.refill {s : State} (h : Live s) : Live (refill s) := by
  obtain ⟨a, t, hcall, ht⟩ := live_install (ph := ⟨.read, .boundary⟩) (n := s.eng.cnt) h.phase h.wd
  unfold Machine.refill
  rw [hcall]
  exact ht.shiftOut

theorem Live.deliverFull {s : State} (h : Live s) : Live (deliverFull s) := by
  obtain ⟨a, t, hcall, ht⟩ := live_install (ph := ⟨.write, .boundary⟩) (n := s.eng.cnt) h.phase h.wd
  unfold Machine.deliverFull
  rw [hcall]
  exact ht.emit _

/-- A byte sent leaves the transaction open, armed and its grant well formed (R133). -/
theorem live_sendByte (mNack : Bool) {s : State} (h : grantInv s = true) : Live (sendByte mNack s) := by
  have ho := live_openExchange h
  unfold sendByte
  split
  · exact ho.emit _
  · split
    · exact ho.refill
    · exact ho.shiftOut

/-- A byte received leaves the transaction open, armed and its grant well formed (R134). -/
theorem live_receiveByte (rx : Byte) {s : State} (h : grantInv s = true) : Live (receiveByte rx s) := by
  have ho := live_openExchange h
  unfold receiveByte
  split
  · exact ho.emit _
  · next hr =>
    split
    · exact ho.emit _
    · next sp i _ =>
      have hcounted : Live ((openExchange s).storeByte sp i rx).countByte := by
        refine (ho.storeByte sp i rx).countByte ?_
        rw [(storeByte_frame sp i rx (openExchange s)).1]
        exact hr
      split
      · exact hcounted.deliverFull
      · exact hcounted.emit _

theorem live_addressMatch (slot : Slot) (dir : Dir) (s : State) : Live (addressMatch slot dir s) := by
  have hwd : (opened slot dir s).wd = armedWatchdog (opened slot dir s).cfg := rfl
  obtain ⟨a, t, hcall, ht⟩ := live_install (ph := ⟨dir, .start⟩) (n := 0) (s := opened slot dir s) (by simp) hwd
  have hm : addressMatch slot dir s = (t.install a).emit (.ack a.ack) := by
    unfold addressMatch
    rw [show openTransaction slot dir (restartStop s) = opened slot dir s from rfl]
    rw [opened_eng] at hcall
    rw [hcall]
  rw [hm]
  exact ht.emit _

/-! ### Events, ticks and items -/

theorem inv_of_live {s t : State} (hs : inv s = true) (hc : Changes s t) (h : Live t) : inv t = true := by
  have hstatic := hc.static ((inv_iff s).mp hs).1
  exact (inv_iff t).mpr ⟨hstatic, h.engineInv hstatic.cfg⟩

theorem inv_dataEvent (rx : Byte) (mNack : Bool) {s : State} (h : inv s = true) : inv (dataEvent rx mNack s) = true := by
  by_cases hp : s.eng.phase = .idle
  · rw [dataEvent_idle hp]
    exact h
  · cases hd : s.eng.dir with
    | write =>
      rw [dataEvent_write hp hd]
      exact inv_of_live h (changes_receiveByte rx s) (live_receiveByte rx (inv_grantInv h))
    | read =>
      rw [dataEvent_read hp hd]
      exact inv_of_live h (changes_sendByte mNack s) (live_sendByte mNack (inv_grantInv h))

theorem inv_addressEvent (b : BitVec 5) (slot : Slot) (dir : Dir) {s : State} (h : inv s = true) :
    inv (addressEvent b slot dir s) = true := by
  unfold addressEvent
  split
  · exact inv_of_live h (changes_addressMatch slot dir s) (live_addressMatch slot dir s)
  · exact h

theorem inv_endTransaction (kind : PhaseKind) {s : State} (h : inv s = true) : inv (endTransaction kind s) = true := by
  have hstatic := (changes_endTransaction kind s).static ((inv_iff s).mp h).1
  unfold endTransaction at hstatic ⊢
  split at hstatic
  · exact h
  · exact (inv_iff _).mpr ⟨hstatic, engineInv_clear _⟩

theorem inv_busEvent (e : BusEvent) {s : State} (h : inv s = true) : inv (busEvent e s) = true := by
  cases e with
  | addr a => exact inv_addressEvent _ _ _ h
  | data rx mNack => exact inv_dataEvent rx mNack h
  | stop => exact inv_endTransaction .stop h
  | error => exact inv_endTransaction .error h

theorem inv_busEvents (es : List BusEvent) {s : State} (h : inv s = true) : inv (busEvents es s) = true := by
  induction es generalizing s with
  | nil => exact h
  | cons e es ih =>
    unfold busEvents
    split
    · exact h
    · exact ih (inv_busEvent e h)

/-- The watchdog step keeps the count in 1 to `P_TIMEOUT` while a transaction is open, and disables it at the end
(R161, R162). -/
theorem inv_watchdogStep {s : State} (h : inv s = true) : inv (watchdogStep s) = true := by
  have hstatic := (changes_watchdogStep s).static ((inv_iff s).mp h).1
  have heng := ((inv_iff s).mp h).2
  refine (inv_iff _).mpr ⟨hstatic, ?_⟩
  cases he : s.wd.enabled with
  | false => rw [watchdogStep_disabled he]; exact heng
  | true =>
    rcases Nat.lt_or_ge 1 s.wd.count with hc | hc
    · have hwd := heng.watchdog
      rw [watchdogStep_running he hc]
      refine ⟨heng.grant, heng.bound, heng.idle, ?_⟩
      simp only [watchdogInv, he, Bool.and_eq_true, if_true, decide_eq_true_eq] at hwd ⊢
      exact ⟨hwd.1, by omega, by omega⟩
    · rw [watchdogStep_expiring he hc]
      exact ⟨rfl, rfl, rfl, rfl⟩

theorem gpiTick_regs (s : State) : (gpiTick s).eng = s.eng ∧ (gpiTick s).wd = s.wd := by
  unfold gpiTick gpiPeriodic
  split_ifs
  · rw [gpiSample_eq]
    exact ⟨rfl, rfl⟩
  · exact ⟨rfl, rfl⟩
  · exact ⟨rfl, rfl⟩

theorem inv_gpiTick {s : State} (h : inv s = true) : inv (gpiTick s) = true := by
  obtain ⟨hstatic, heng⟩ := (inv_iff s).mp h
  have hkept := (changes_gpiTick s).kept
  obtain ⟨he, hw⟩ := gpiTick_regs s
  exact (inv_iff _).mpr ⟨(changes_gpiTick s).static hstatic, heng.congr he hw hkept.cfg hkept.reg⟩

theorem inv_tickEvent (between : List BusEvent) {s : State} (h : inv s = true) : inv (tickEvent between s) = true := by
  have hb := inv_busEvents between (inv_watchdogStep h)
  unfold tickEvent
  split
  · exact hb
  · exact inv_gpiTick hb

/-- A call and its kept answer leave the engine and the watchdog alone (R123). -/
theorem inv_called {k : DeviceKind} {s t : State} (hf : DeviceFrame k s t) (a : Answer) (h : inv s = true) :
    inv (t.setAns a) = true := by
  obtain ⟨hstatic, heng⟩ := (inv_iff s).mp h
  exact (inv_iff t).mpr ⟨hf.static hstatic, heng.congr hf.eng hf.wd hf.cfg hf.reg⟩

theorem inv_runItem (it : PortItem) {s : State} (h : inv s = true) : inv (runItem it s) = true := by
  cases it with
  | event e => exact inv_busEvent e h
  | tick between => exact inv_tickEvent between h
  | phase code =>
    obtain ⟨a, t, hcall, ⟨k, -, hf⟩, -⟩ := call_answered s.eng.slot (phaseOf code) s.eng.cnt s
    simp only [runItem, hcall, keepAnswer]
    exact inv_called hf a h
  | frame ts => exact inv_busEvents _ h

/-- Every operation keeps the invariant. -/
theorem inv_exec {i : Instr} {s t : State} (h : inv s = true) (hx : exec i s = .next t) : inv t = true := by
  rcases exec_runItem i s with hr | ⟨k, ph, n, rfl⟩
  · obtain rfl := Host.Outcome.next.inj (hr.symm.trans hx)
    exact inv_runItem _ h
  · obtain rfl := Host.Outcome.next.inj ((exec_decodePhase k ph n s).symm.trans hx)
    exact inv_called (called_frame k s.eng.slot ph n s) _ h

/-- Settles O10: a step runs an operation or an item, and both keep the invariant. -/
theorem everyStepKeepsTheInvariant : Obligations.EveryStepKeepsTheInvariant := by
  intro s t h hstep
  rcases step_cases hstep with rfl | ⟨rest, ⟨i, hi⟩ | ⟨it, rfl⟩⟩
  · exact h
  · exact inv_exec (s := s.setInbox rest) h hi
  · exact inv_runItem it (s := s.setInbox rest) h

/-! ### The reset states -/

theorem inv_resetWith {p : Params} {m : Memory} (hp : p.wf = true) (hm : Memory.wf m = true) :
    inv (State.resetWith p m) = true := by
  have hper := (Params.wf_bounds hp).2.1
  have hreg : registryWf p.registry = true := by
    simp only [Params.wf, Bool.and_eq_true] at hp
    exact hp.2
  refine (inv_iff _).mpr ⟨⟨hp, hreg, hper, ?_, hm, rfl⟩, ⟨rfl, rfl, rfl, rfl⟩⟩
  exact List.length_replicate

/-- Settles O9: the reset values meet each part of the invariant, and the rest holds by definition. -/
theorem everyResetStateMeetsTheInvariant : Obligations.EveryResetStateMeetsTheInvariant := by
  rintro s ⟨p, m, hp, hm, rfl⟩
  exact ⟨inv_resetWith hp hm, ⟨rfl, rfl, rfl⟩, rfl, Bool.false_ne_true⟩

/-- The region list admitted of any list is one R180 admits. -/
theorem regionsWf_admitRegions (l : List Region) : regionsWf (Config.admitRegions l) = true := by
  induction l with
  | nil => rfl
  | cons r rest ih =>
    unfold Config.admitRegions
    dsimp only
    split
    · next h =>
      simp only [Bool.and_eq_true] at h
      simp only [regionsWf, h, ih, Bool.and_self]
    · exact ih

theorem config_specialsApart : Config.params.specialsApart = true := by
  rw [specialsApart_iff]
  simp only [Config.params, Config.admitCtrl]
  split
  · decide
  · next h =>
    simp only [not_or] at h
    obtain ⟨h1, h2, h3⟩ := h
    exact ⟨by decide, by decide, by decide, h1, h2, h3⟩

/-- The parameters of the reset state are admissible, whatever the OPEN ones are (log 2). -/
theorem config_wf : Config.params.wf = true := by
  have hwin : Config.params.eeWindow.toNat = Config.openWindow.val + 1 := by
    have := Config.openWindow.isLt
    simp only [Config.params, BitVec.toNat_ofNat]
    omega
  have hne : Config.params.eeWindow ≠ 0#16 := fun h => by simp [h] at hwin
  have hmax : Config.params.eeWindow.toNat ≤ Config.largestGrant := by
    have := Config.openWindow.isLt
    rw [hwin, Config.largestGrant]
    omega
  have hregions : regionsWf Config.params.eeRegions = true := regionsWf_admitRegions _
  have hreg : registryWf Config.params.registry = true := by rw [config_registry]; decide
  have htime : 1 ≤ Config.params.timeout := Nat.le_add_left 1 _
  have hpage : 1 ≤ Config.params.sramPage := Nat.le_add_left 1 _
  have hper : 1 ≤ Config.params.gpiPeriod := le_rfl
  simp [Params.wf, hne, hmax, hregions, hreg, htime, hper, hpage, config_specialsApart]

/-- Settles O8: the reset state is one of R310's, its parameters admissible and its SRAM canonical. -/
theorem resetMeetsTheInvariant : Obligations.ResetMeetsTheInvariant :=
  inv_resetWith config_wf Memory.wf_powerUp

end Sys2Proof.Machine
end

section
/-! The phase handler rows (spec/30_encoding.md R100, spec/43_eeprom.md, spec/44_adc.md, spec/45_gpi.md,
spec/46_sram.md): a row is its handler run alone (log 10), and what each handler comes to is said here once. -/

namespace Sys2Proof.Machine

/-! ### A row is its handler -/

/-- No Stop or Error handler answers a capacity (R115, R121). -/
theorem handler_end_cap (k : DeviceKind) {ph : Phase} (h : ph.kind = .stop ∨ ph.kind = .error) (n : Count) (s : State) :
    (handler k ph n s).1.cap = 0 := by
  obtain ⟨d, kd⟩ := ph
  cases kd
  case start | boundary => simp at h
  all_goals cases k <;> cases d <;> rfl

/-- What settling does to a device's answer, whatever the phase: capacity 0 keeps the acknowledge alone (R111). -/
theorem settled_handler (k : DeviceKind) (ph : Phase) (n : Count) (s : State) :
    settled ph (handler k ph n s).1 =
      if (handler k ph n s).1.cap = 0 then .refuse (handler k ph n s).1.ack else (handler k ph n s).1 := by
  obtain ⟨d, kd⟩ := ph
  cases kd
  case start | boundary => rfl
  case stop => rw [if_pos (handler_end_cap k (.inl rfl) n s)]; rfl
  case error => rw [if_pos (handler_end_cap k (.inr rfl) n s)]; rfl

/-- A phase row: the Call record, the handler, its answer kept (R111, log 10). -/
theorem exec_row (k : DeviceKind) (ph : Phase) (n : Count) (s : State) :
    let h := handler k ph n { s with log := s.log ++ [.call s.eng.slot ph n] }
    exec (decodePhase k ph n) s =
      .next { h.2 with ans := if h.1.cap = 0 then { grant := none, cap := 0, ack := h.1.ack } else h.1 } := by
  have h := exec_decodePhase k ph n s
  rw [settled_handler] at h
  exact h

/-! ### EEPROM -/

/-- Settles O29: the three handlers as they are defined, the Stop by its count of staged bytes. -/
theorem eepromWriteSideHandlers : Obligations.EepromWriteSideHandlers := by
  intro s n stopped
  refine ⟨rfl, fun h2 => ?_, fun h1 => ?_, rfl⟩
  · refine (exec_row .eeprom ⟨.write, .stop⟩ n s).trans ?_
    simp only [handler, eeWriteStop, if_pos h2]
    rfl
  · refine (exec_row .eeprom ⟨.write, .stop⟩ n s).trans ?_
    simp only [handler, eeWriteStop, if_neg (Nat.not_le.mpr h1)]
    rfl

theorem armConfirms_iff (m : Arm) (a : U16) (d : Byte) :
    armConfirms m a d = true ↔ m = ⟨some (hi8 a), some (lo8 a), some d⟩ := by
  obtain ⟨hi, lo, data⟩ := m
  simp [armConfirms, and_assoc]

/-- The write policy (R184): the region is a writable part of the persistent store, open or armed for this byte. -/
theorem eeAccepts_iff (a : U16) (d : Byte) (s : State) :
    eeAccepts a d s = true ↔ ∃ r, regionAt s.cfg a = some r ∧ r.kind = .persist ∧
      (r.access = .openAccess ∨ r.access = .protect ∧ s.ee.arm = ⟨some (hi8 a), some (lo8 a), some d⟩) := by
  unfold eeAccepts
  cases regionAt s.cfg a with
  | none => simp
  | some r => cases hk : r.kind <;> cases ha : r.access <;> simp [hk, ha, armConfirms_iff]

/-- What the write policy rejects (R184). -/
theorem eeAccepts_eq_false {a : U16} {d : Byte} {s : State}
    (h : ∀ r, regionAt s.cfg a = some r → r.kind ≠ .persist ∨ r.access = .ro ∨
      r.access = .protect ∧ s.ee.arm ≠ ⟨some (hi8 a), some (lo8 a), some d⟩) : eeAccepts a d s = false := by
  rw [← Bool.not_eq_true, eeAccepts_iff]
  rintro ⟨r, hr, hk, hacc⟩
  obtain hne | hro | ⟨hprot, harm⟩ := h r hr
  · exact hne hk
  · simp [hro] at hacc
  · exact harm (by simpa [hprot] using hacc)

/-- The index of a store write to a listed region (R184, log 23). -/
theorem eeStoreIndex_some {p : Params} {a : U16} {r : Region} (h : regionAt p a = some r) :
    eeStoreIndex p a = r.off + (a - r.lo) := by
  simp [eeStoreIndex, h, regionIndex]

/-- A store write the policy accepts (R184). -/
theorem eeWrite_accepted {a : U16} {d : Byte} {s : State} (h : eeAccepts a d s = true) :
    eeWrite a d s =
      (.ack,
        { s with
          ee := { s.ee with arm := s.cfg.armClear }, log := s.log ++ [.persistWrite (eeStoreIndex s.cfg a) d] }) :=
  if_pos h

/-- A store write the policy rejects (R184). -/
theorem eeWrite_rejected {a : U16} {d : Byte} {s : State} (h : eeAccepts a d s = false) :
    eeWrite a d s = (.nack, { s with ee := { s.ee with arm := s.cfg.armClear } }) :=
  if_neg (by simp [h])

/-- The write of a complete F-EE-W to an ordinary address is a store write (R187). -/
theorem eeCommit_ordinary {a : U16} {s : State} (h : s.cfg.isSpecial a = false) (d : Byte) :
    eeCommit a d s = eeWrite a d s := by
  obtain ⟨h1, h2, h3, h4⟩ := (isSpecial_eq_false_iff _ _).mp h
  simp [eeCommit, h1, h2, h3, h4]

/-- EE.WriteBufferFull's row: the staged byte written to the staged address, the acknowledge kept (R187). -/
theorem exec_eeWriteBufferFull (n : Count) (s : State) :
    exec (.eeWriteBufferFull n) s =
      let r := eeCommit (s.ee.stage[0] ++ s.ee.stage[1]) s.ee.stage[2]
        { s with
          ee := { s.ee with cursor := s.ee.stage[0] ++ s.ee.stage[1] }
          log := s.log ++ [.call s.eng.slot ⟨.write, .boundary⟩ n] }
      .next { r.2 with ans := { grant := none, cap := 0, ack := r.1 } } := rfl

/-- Settles O30: the special addresses in R187's order, then the policy on the state with the cursor set. -/
theorem eepromWriteBufferFullAppliesThePolicy : Obligations.EepromWriteBufferFullAppliesThePolicy := by
  intro s n a d called done ee cleared
  rw [exec_eeWriteBufferFull]
  refine ⟨fun h1 => ?_, fun h1 h2 => ?_, fun h1 h2 h3 => ?_, fun h1 h2 h3 h4 => ?_, fun hord r hr hk hacc => ?_,
    fun hord hrej => ?_⟩
  · rw [eeCommit, if_pos h1]
    rfl
  · rw [eeCommit, if_neg h1, if_pos h2]
    rfl
  · rw [eeCommit, if_neg h1, if_neg h2, if_pos h3]
    rfl
  · rw [eeCommit, if_neg h1, if_neg h2, if_neg h3, if_pos h4]
    rfl
  · rw [eeCommit_ordinary, eeWrite_accepted, eeStoreIndex_some]
    · exact hr
    · exact (eeAccepts_iff _ _ _).mpr ⟨r, hr, hk, hacc⟩
    · exact hord
  · rw [eeCommit_ordinary, eeWrite_rejected]
    · exact eeAccepts_eq_false hrej
    · exact hord

/-- All that filling the window does (R185). -/
theorem fillWindow_eq (c : U16) (s : State) :
    let fill := eeBytes s.cfg.eeWindow.toNat c s
    fillWindow c s = { fill.2 with ee := { s.ee with win := fill.1 } } := by
  intro fill
  have he : fill.2.ee = s.ee := (eeBytes_frame .adc _ c s).ee (by decide)
  rw [← he]
  rfl

/-- Settles O31: each fill runs on the called state, and the window of `P_EE_WINDOW` bytes is no empty one. -/
theorem eepromReadSideHandlers : Obligations.EepromReadSideHandlers := by
  intro s n hne size granted ended started emptied fill0 fill1
  have hgranted : (if s.cfg.eeWindow = 0 then .refuse .ack else granted) = granted := if_neg hne
  refine ⟨?_, ?_, rfl, rfl⟩
  · refine (exec_row .eeprom ⟨.read, .start⟩ n s).trans (congrArg Host.Outcome.next ?_)
    exact congr (congrArg (fun t a => State.setAns a t) (fillWindow_eq s.ee.cursor started)) hgranted
  · refine (exec_row .eeprom ⟨.read, .boundary⟩ n s).trans (congrArg Host.Outcome.next ?_)
    exact congr (congrArg (fun t a => State.setAns a t) (fillWindow_eq (s.ee.cursor + n) emptied)) hgranted

/-! ### The bytes of a window -/

/-- Byte `i` of a fill is the EEPROM's byte `i` addresses on, read after the `i` before it (R185). -/
theorem eeBytes_getElem? {k i : Nat} (h : i < k) (c : U16) (s : State) :
    (eeBytes k c s).1[i]? = some (eeByte (c + BitVec.ofNat 16 i) (eeBytes i c s).2).1 := by
  induction k generalizing i c s with
  | zero => omega
  | succ k ih =>
    cases i with
    | zero => simp [eeBytes]
    | succ i =>
      have hc : c + 1 + BitVec.ofNat 16 i = c + BitVec.ofNat 16 (i + 1) := by
        rw [BitVec.add_assoc, Nat.add_comm i 1, BitVec.ofNat_add]
        rfl
      rw [← hc]
      exact ih (Nat.lt_of_succ_lt_succ h) (c + 1) (eeByte c s).2

theorem region_holds_iff (r : Region) (a : U16) :
    (r.lo.ule a && a.ule r.hi) = true ↔ r.lo.toNat ≤ a.toNat ∧ a.toNat ≤ r.hi.toNat := by
  simp [BitVec.ule_eq_decide]

theorem regionAt_some {p : Params} {a : U16} {r : Region} (h : regionAt p a = some r) :
    r ∈ p.eeRegions ∧ r.lo.toNat ≤ a.toNat ∧ a.toNat ≤ r.hi.toNat :=
  ⟨List.mem_of_find?_eq_some h, (region_holds_iff r a).mp (List.find?_some (p := fun q : Region => q.lo.ule a && a.ule q.hi) h)⟩

theorem regionAt_none_iff (p : Params) (a : U16) :
    regionAt p a = none ↔ ∀ r ∈ p.eeRegions, ¬ (r.lo.toNat ≤ a.toNat ∧ a.toNat ≤ r.hi.toNat) := by
  simp only [regionAt, List.find?_eq_none, region_holds_iff]

/-- Entries apart share no address (R180). -/
theorem regions_not_apart {r q : Region} {a : U16} (hr : r.lo.toNat ≤ a.toNat ∧ a.toNat ≤ r.hi.toNat)
    (hq : q.lo.toNat ≤ a.toNat ∧ a.toNat ≤ q.hi.toNat) : r.apart q = false := by
  simp only [Region.apart, BitVec.ult, Bool.or_eq_false_iff, decide_eq_false_iff_not]
  omega

/-- In a list R180 admits, two entries that hold one address are one entry. -/
theorem regionsWf_unique {l : List Region} (h : regionsWf l = true) {a : U16} {r q : Region} (hr : r ∈ l) (hq : q ∈ l)
    (hra : r.lo.toNat ≤ a.toNat ∧ a.toNat ≤ r.hi.toNat) (hqa : q.lo.toNat ≤ a.toNat ∧ a.toNat ≤ q.hi.toNat) : r = q := by
  induction l with
  | nil => cases hr
  | cons x rest ih =>
    simp only [regionsWf, Bool.and_eq_true, List.all_eq_true] at h
    obtain ⟨⟨-, hapart⟩, hrest⟩ := h
    rcases List.mem_cons.mp hr with rfl | hr' <;> rcases List.mem_cons.mp hq with rfl | hq'
    · rfl
    · exact absurd (hapart q hq') (by simp [regions_not_apart hra hqa])
    · exact absurd (hapart r hr') (by simp [regions_not_apart hqa hra])
    · exact ih hrest hr' hq'

/-- Settles O32: the fill by induction, the region by `List.find?`, the bytes by their region's kind. -/
theorem windowBytesComeFromTheRegionMap : Obligations.WindowBytesComeFromTheRegionMap := by
  refine ⟨fun k i c s h => ⟨eeBytes_length k c s, eeBytes_getElem? h c s⟩, fun p a => ⟨regionAt_none_iff p a,
    fun r h => (regionAt_some h).1, fun hwf r => ⟨regionAt_some, fun ⟨hmem, hholds⟩ => ?_⟩⟩, fun a s =>
    ⟨fun h => by simp only [eeByte, h], fun r h => ?_⟩⟩
  · cases hq : regionAt p a with
    | none => exact absurd hholds ((regionAt_none_iff p a).mp hq r hmem)
    | some q =>
      obtain ⟨hqmem, hqholds⟩ := regionAt_some hq
      rw [regionsWf_unique hwf hmem hqmem hholds hqholds]
  · obtain ⟨-, hlo, hhi⟩ := regionAt_some h
    refine ⟨hlo, hhi, fun hk => ?_, fun hk => ?_, fun hk => ?_, fun hk => ?_⟩ <;> simp only [eeByte, h, hk] <;> rfl

/-! ### ADC -/

/-- Settles O41: the handlers as they are defined. -/
theorem adcHandlersWithoutConversion : Obligations.AdcHandlersWithoutConversion := by
  intro s n called nothing b
  exact
    ⟨exec_row .adc ⟨.write, .start⟩ n s, exec_row .adc ⟨.write, .boundary⟩ n s, exec_row .adc ⟨.write, .stop⟩ n s,
      exec_row .adc ⟨.write, .error⟩ n s, exec_row .adc ⟨.read, .boundary⟩ n s, exec_row .adc ⟨.read, .stop⟩ n s,
      exec_row .adc ⟨.read, .error⟩ n s⟩

/-- The encoded difference in the default encoding (R220). -/
theorem adcEncode_mod256 {p : Params} (h : p.adcDiffEnc = .mod256) (d : Int) :
    ((adcEncode p d).toNat : Int) = d % 256 := by
  simp only [adcEncode, h, BitVec.toNat_ofInt]
  omega

/-- The encoded difference of two bytes in a table encoding: entry `d + 255` (R220, log 19). -/
theorem adcEncode_table {p : Params} {entries : Vector Byte 511} (h : p.adcDiffEnc = .table entries) (a b : Byte) :
    entries[((a.toNat : Int) - b.toNat + 255).toNat]? = some (adcEncode p ((a.toNat : Int) - b.toNat)) := by
  have ha := a.isLt
  have hb := b.isLt
  have hlt : ((a.toNat : Int) - b.toNat + 255).toNat < 511 := by omega
  simp only [adcEncode, h, Nat.mod_eq_of_lt hlt]
  exact Vector.getElem?_eq_getElem hlt

/-- The encoded difference in a table encoding, whichever of the two is taken from the other. -/
theorem adcEncode_adcDiff_table {p : Params} {entries : Vector Byte 511} (h : p.adcDiffEnc = .table entries)
    (c : BitVec 3) (a b : Byte) :
    entries[(adcDiff p c a b + 255).toNat]? = some (adcEncode p (adcDiff p c a b)) := by
  unfold adcDiff
  split <;> exact adcEncode_table h _ _

/-- The difference taken, by the low bit of the channel and the polarity (R220). -/
theorem adcDiff_eq (p : Params) (c : BitVec 3) (a b : Byte) :
    adcDiff p c a b =
      (if c.getLsbD 0 = (p.adcDiffPol == .setIsChanMinusPair) then (a.toNat : Int) else b.toNat) -
        (if c.getLsbD 0 = (p.adcDiffPol == .setIsChanMinusPair) then (b.toNat : Int) else a.toNat) := by
  unfold adcDiff
  cases p.adcDiffPol <;> cases c.getLsbD 0 <;> rfl

/-- A single-ended conversion (R220). -/
theorem adcConvert_single {s : State} (h : s.adc.se = true) :
    adcConvert s =
      (s.answerTo (adcSampleReq s s.adc.chan), s.noteRead (adcSampleReq s s.adc.chan)) :=
  if_pos h

/-- A differential conversion (R220). -/
theorem adcConvert_pair {s : State} (h : s.adc.se = false) :
    let q0 := adcSampleReq s s.adc.chan
    let q1 := adcSampleReq s (pairOf s.adc.chan)
    adcConvert s =
      (adcEncode s.cfg (adcDiff s.cfg s.adc.chan (s.answerTo q0) ((s.noteRead q0).answerTo q1)),
        (s.noteRead q0).noteRead q1) :=
  if_neg (by simp [h])

/-- A conversion only asks its collaborator (R220). -/
theorem adcConvert_state (s : State) :
    (adcConvert s).2 = { s with draws := (adcConvert s).2.draws, asked := (adcConvert s).2.asked } := by
  unfold adcConvert
  split <;> rfl

/-- All that ADC.ReadStart does (R225). -/
theorem adcReadStart_eq (n : Count) (s : State) :
    adcReadStart n s =
      (.window .adcRes 0 1,
        { s with
          draws := (adcConvert s).2.draws, asked := (adcConvert s).2.asked
          adc := { s.adc with res := (adcConvert s).1 } }) := by
  unfold adcReadStart
  dsimp only
  rw [adcConvert_state s]
  rfl

/-- ADC.ReadStart's row, from what its conversion on the called state comes to (R225). -/
theorem exec_adcReadStart {n : Count} {s u : State} {e : Byte}
    (h : adcConvert { s with log := s.log ++ [.call s.eng.slot ⟨.read, .start⟩ n] } = (e, u)) :
    exec (.adcReadStart n) s =
      .next
        { s with
          log := s.log ++ [.call s.eng.slot ⟨.read, .start⟩ n], draws := u.draws, asked := u.asked
          adc := { s.adc with res := e }
          ans := { grant := some { space := .adcRes, base := 0, len := 1 }, cap := 1, ack := .ack } } := by
  have hrow := exec_row .adc ⟨.read, .start⟩ n s
  simp only [handler, adcReadStart_eq, h] at hrow
  exact hrow

/-- Settles O42: one sample or two, and the difference that the polarity and the low bit select, encoded. -/
theorem adcReadStartConverts : Obligations.AdcReadStartConverts := by
  intro s n called granted q0 q1 a b
  refine ⟨fun hse => exec_adcReadStart (adcConvert_single (s := called) hse), fun hse => ?_⟩
  intro minuend subtrahend d
  have hd : adcDiff s.cfg s.adc.chan a b = d := adcDiff_eq _ _ _ _
  refine ⟨adcEncode s.cfg d, fun henc => adcEncode_mod256 henc d, fun entries henc => ?_, ?_⟩
  · rw [← hd]
    exact adcEncode_adcDiff_table henc _ _ _
  · have hasked : (s.asked ++ [q0]) ++ [q1] = s.asked ++ [q0, q1] := List.append_assoc _ _ _
    rw [← hd, ← hasked]
    exact exec_adcReadStart (adcConvert_pair (s := called) hse)

/-! ### GPI -/

/-- All that the end of a GPI transaction does but its records (R244, R248). -/
theorem gpiFinish_rest (s : State) :
    (gpiFinish s).gpi =
        { s.gpi with
          armed := true, prev := s.gpi.cur, cur := s.answerTo .pinRead
          trans := s.gpi.trans ||| (s.answerTo .pinRead ^^^ s.gpi.cur) } ∧
      (gpiFinish s).asked = s.asked ++ [.pinRead] := by
  rw [gpiFinish, putGpi_eq, gpiSample_eq]
  exact ⟨rfl, rfl⟩

/-- All that GPI.ReadStart does but its records (R246). -/
theorem gpiReadStart_rest (n : Count) (s : State) :
    (gpiReadStart n s).2.gpi =
        { s.gpi with
          armed := false, prev := s.gpi.cur, cur := s.answerTo .pinRead, trans := 0
          rbuf := #v[s.answerTo .pinRead, s.gpi.trans ||| (s.answerTo .pinRead ^^^ s.gpi.cur)] } ∧
      (gpiReadStart n s).2.asked = s.asked ++ [.pinRead] := by
  rw [gpiReadStart, putGpi_eq, putGpi_eq, gpiSample_eq]
  exact ⟨rfl, rfl⟩

/-- What every GPI row leaves alone (R123). -/
theorem exec_gpi_row (ph : Phase) (n : Count) (s : State) :
    ∃ t, exec (decodePhase .gpi ph n) s = .next t ∧
      t.gpi = (handler .gpi ph n (s.emit (.call s.eng.slot ph n))).2.gpi ∧
      t.log = (handler .gpi ph n (s.emit (.call s.eng.slot ph n))).2.log ∧
      t.asked = (handler .gpi ph n (s.emit (.call s.eng.slot ph n))).2.asked ∧
      t.ans = settled ph (handler .gpi ph n (s.emit (.call s.eng.slot ph n))).1 ∧
      t.eng = s.eng ∧ t.wd = s.wd ∧ t.ee = s.ee ∧ t.adc = s.adc ∧ t.sram = s.sram ∧ t.gpiCount = s.gpiCount ∧
      t.reg = s.reg ∧ t.fault = s.fault := by
  have hf := called_frame .gpi s.eng.slot ph n s
  exact ⟨_, exec_decodePhase .gpi ph n s, rfl, rfl, rfl, rfl, hf.eng, hf.wd, hf.ee (by decide), hf.adc (by decide),
    hf.sram (by decide), hf.gpiCount, hf.reg, hf.fault⟩

/-- A Stop's or an Error's row of the GPI (R244, R245, R248, R249). -/
theorem exec_gpi_end {ph : Phase} (h : ph.kind = .stop ∨ ph.kind = .error) (n : Count) (s : State) :
    ∃ t, exec (decodePhase .gpi ph n) s = .next t ∧
      t.gpi =
        { s.gpi with
          armed := true, prev := s.gpi.cur, cur := s.answerTo .pinRead
          trans := s.gpi.trans ||| (s.answerTo .pinRead ^^^ s.gpi.cur) } ∧
      t.ans = { grant := none, cap := 0, ack := .ack } ∧ t.asked = s.asked ++ [.pinRead] ∧
      t.eng = s.eng ∧ t.wd = s.wd ∧ t.ee = s.ee ∧ t.adc = s.adc ∧ t.sram = s.sram ∧ t.gpiCount = s.gpiCount ∧
      t.reg = s.reg ∧ t.fault = s.fault := by
  have hend : handler .gpi ph n (s.emit (.call s.eng.slot ph n)) =
      (.refuse .ack, gpiFinish (s.emit (.call s.eng.slot ph n))) := by
    obtain ⟨_ | _, _ | _⟩ := ph
    case write.start | write.boundary | read.start | read.boundary => simp at h
    all_goals rfl
  obtain ⟨hgpi, hasked⟩ := gpiFinish_rest (s.emit (.call s.eng.slot ph n))
  obtain ⟨t, ht, tgpi, -, tasked, tans, trest⟩ := exec_gpi_row ph n s
  rw [hend] at tgpi tasked tans
  exact ⟨t, ht, tgpi.trans hgpi, tans.trans (settled_zero ph _ rfl), tasked.trans hasked, trest⟩

/-- Settles O46: the line drops at the Start, the mask is the staged byte, and both ends finish the same way. -/
theorem gpiWriteSideHandlers : Obligations.GpiWriteSideHandlers := by
  intro s n i
  refine ⟨?_, ?_, ?_⟩
  · obtain ⟨t, ht, tgpi, tlog, tasked, tans, heng, hwd, hee, hadc, hsram, hcount, hreg, hfault⟩ :=
      exec_gpi_row ⟨.write, .start⟩ n s
    have hgpi : t.gpi = { s.gpi with armed := false } := tgpi.trans (putGpi_gpi _ _)
    refine ⟨t, irqRecords s.gpi.irq false, ht, hgpi, by simp [hgpi, Gpi.irq], ?_, ?_, tans, heng, hwd, hee, hadc, hsram,
      hcount, hreg, hfault, ?_⟩
    · rw [tlog]
      simp only [handler, gpiWriteStart, putGpi_eq]
      simp [Gpi.irq]
    · cases s.gpi.irq <;> rfl
    · rw [tasked]
      simp only [handler, gpiWriteStart, putGpi_eq]
      rfl
  · obtain ⟨t, ht, tgpi, tlog, tasked, tans, heng, hwd, hee, hadc, hsram, hcount, hreg, hfault⟩ :=
      exec_gpi_row ⟨.write, .boundary⟩ n s
    refine ⟨t, ht, tgpi.trans (putGpi_gpi _ _), tans, heng, hwd, hee, hadc, hsram, hcount, hreg, hfault, ?_⟩
    rw [tasked]
    simp only [handler, gpiWriteBufferFull, putGpi_eq]
    rfl
  · rintro (rfl | rfl)
    · exact exec_gpi_end (ph := ⟨.write, .stop⟩) (.inl rfl) n s
    · exact exec_gpi_end (ph := ⟨.write, .error⟩) (.inr rfl) n s

/-- Settles O47: ReadStart samples, captures and clears; both ends finish the same way. -/
theorem gpiReadSideHandlers : Obligations.GpiReadSideHandlers := by
  intro s n i v
  refine ⟨?_, exec_row .gpi ⟨.read, .boundary⟩ n s, ?_⟩
  · obtain ⟨t, ht, tgpi, -, tasked, tans, hrest⟩ := exec_gpi_row ⟨.read, .start⟩ n s
    obtain ⟨hgpi, hasked⟩ := gpiReadStart_rest n (s.emit (.call s.eng.slot ⟨.read, .start⟩ n))
    exact ⟨t, ht, tgpi.trans hgpi, tans, tasked.trans hasked, hrest⟩
  · rintro (rfl | rfl)
    · exact exec_gpi_end (ph := ⟨.read, .stop⟩) (.inl rfl) n s
    · exact exec_gpi_end (ph := ⟨.read, .error⟩) (.inr rfl) n s

/-! ### SRAM -/

/-- The staged cursor is bit 0 of AddrHi above AddrLo: bits 7:1 of AddrHi are ignored (R261). -/
theorem stagedCursor_eq (hi lo : Byte) : (cat16 hi lo).setWidth 9 = (hi.extractLsb' 0 1 ++ lo : BitVec 9) := by
  apply BitVec.eq_of_getLsbD_eq
  intro i hi9
  simp only [cat16, BitVec.getLsbD_setWidth, BitVec.getLsbD_append, BitVec.getLsbD_extractLsb', hi9, decide_true,
    Bool.true_and]
  split
  · rfl
  · have h0 : i - 8 = 0 := by omega
    simp [h0]

/-- The write window's length is no 0: it reaches the top of the array (R261, R263). -/
theorem sramWriteWindow_eq (c : U9) :
    sramWriteWindow c =
      { grant := some { space := .sram, base := c.toNat, len := 512 - c.setWidth 16 }, cap := 512 - c.setWidth 16
        ack := .ack } ∧
      (512 - c.setWidth 16 : Count) ≠ 0 := by
  have hc := c.isLt
  have hlen : BitVec.ofNat 16 (Config.sramSize - c.toNat) = 512 - c.setWidth 16 := by
    unfold Config.sramSize
    bv_omega
  refine ⟨by rw [sramWriteWindow, hlen]; rfl, by bv_omega⟩

/-- The read window's length is no 0 (R7, R263). -/
theorem sramLen_ne_zero {p : Params} (h : 1 ≤ p.sramPage) (c : U9) : BitVec.ofNat 16 (sramLen p c) ≠ 0 := by
  have hc : c.toNat < 512 := c.isLt
  have hpos : 0 < sramLen p c := Nat.lt_min.mpr ⟨Nat.sub_pos_of_lt hc, h⟩
  have hmax : sramLen p c ≤ 512 := (Nat.min_le_left _ _).trans (Nat.sub_le 512 c.toNat)
  intro h0
  have h0' : sramLen p c % 65536 = 0 := congrArg BitVec.toNat h0
  omega

/-- Settles O53: the phase decides; the address phase takes the staged cursor, the data phase advances it. -/
theorem sramWriteSideHandlers : Obligations.SramWriteSideHandlers := by
  intro s n i ph called nothing c
  have hc : s.sram.stagedCursor = c := stagedCursor_eq _ _
  refine ⟨rfl, fun hw => ?_, fun hw => ?_, ?_⟩
  · have hrow := exec_row .sram ⟨.write, .boundary⟩ n s
    simp only [handler, sramWriteBufferFull, hw, hc, (sramWriteWindow_eq c).1, if_neg (sramWriteWindow_eq c).2] at hrow
    exact hrow
  · have hrow := exec_row .sram ⟨.write, .boundary⟩ n s
    simp only [handler, sramWriteBufferFull, hw] at hrow
    exact hrow
  · rintro (⟨rfl, rfl⟩ | ⟨rfl, rfl⟩)
    · have hrow := exec_row .sram ⟨.write, .stop⟩ n s
      refine ⟨fun hw => ?_, fun hw => ?_⟩ <;>
      · simp only [handler, sramWriteStop, sramWriteEnd, hw] at hrow
        exact hrow
    · have hrow := exec_row .sram ⟨.write, .error⟩ n s
      refine ⟨fun hw => ?_, fun hw => ?_⟩ <;>
      · simp only [handler, sramWriteError, sramWriteEnd, hw] at hrow
        exact hrow

/-- Settles O54: the window is no empty one, and the cursor advances by the count. -/
theorem sramReadSideHandlers : Obligations.SramReadSideHandlers := by
  intro s n i ph hpage called next window
  have hgranted (c : U9) : (if BitVec.ofNat 16 (sramLen s.cfg c) = 0 then .refuse .ack else window c) = window c :=
    if_neg (sramLen_ne_zero hpage c)
  refine ⟨?_, ?_, ?_⟩
  · refine (exec_row .sram ⟨.read, .start⟩ n s).trans (congrArg Host.Outcome.next ?_)
    exact congrArg (fun a => (called ⟨.read, .start⟩).setAns a) (hgranted s.sram.cursor)
  · refine (exec_row .sram ⟨.read, .boundary⟩ n s).trans (congrArg Host.Outcome.next ?_)
    exact congrArg (fun a => State.setAns a (sramAdvance n (called ⟨.read, .boundary⟩))) (hgranted next)
  · rintro (⟨rfl, rfl⟩ | ⟨rfl, rfl⟩)
    · exact exec_row .sram ⟨.read, .stop⟩ n s
    · exact exec_row .sram ⟨.read, .error⟩ n s

/-! ### Stop and Error -/

/-- All that ending a transaction does: the handler of the slot's device, and the engine Idle (R136, R137, R140). -/
theorem endTransaction_some {k : DeviceKind} {s : State} (hp : s.eng.phase ≠ .idle)
    (hk : s.deviceAt s.eng.slot = some k) (kind : PhaseKind) :
    endTransaction kind s =
      { (calledState k s.eng.slot ⟨s.eng.dir, kind⟩ s.eng.cnt s) with
        eng := drained .idle s.eng.slot s.eng.dir, wd := offWatchdog } := by
  have he := (called_frame k s.eng.slot ⟨s.eng.dir, kind⟩ s.eng.cnt s).eng
  have hend : endTransaction kind s = (calledState k s.eng.slot ⟨s.eng.dir, kind⟩ s.eng.cnt s).clear := by
    unfold endTransaction
    rw [call_some hk]
    cases hph : s.eng.phase with
    | idle => exact absurd hph hp
    | addressed | exchanging => rfl
  rw [hend, State.clear, calledState, he]
  rfl

/-- Ending a transaction with an Empty slot calls nobody (R125). -/
theorem endTransaction_none {s : State} (hp : s.eng.phase ≠ .idle) (hn : s.deviceAt s.eng.slot = none)
    (kind : PhaseKind) :
    endTransaction kind s = { s with eng := drained .idle s.eng.slot s.eng.dir, wd := offWatchdog } := by
  unfold endTransaction
  rw [call_none hn]
  cases hph : s.eng.phase with
  | idle => exact absurd hph hp
  | addressed | exchanging => rfl

theorem endTransaction_idle {s : State} (hp : s.eng.phase = .idle) (kind : PhaseKind) : endTransaction kind s = s := by
  unfold endTransaction
  rw [hp]

/-- Settles O17: a row is its handler, and the two end events are one operation with two kinds. -/
theorem stopAndErrorEndTheTransaction : Obligations.StopAndErrorEndTheTransaction := by
  refine ⟨fun s k ph n => exec_row k ph n s, fun s i kd hi => ?_⟩
  have hrun : exec i s = .next (endTransaction kd s) := by
    rcases hi with ⟨rfl, rfl⟩ | ⟨rfl, rfl⟩ <;> rfl
  rw [hrun]
  exact ⟨fun hp => congrArg _ (endTransaction_idle hp kd), fun hp hn => congrArg _ (endTransaction_none hp hn kd),
    fun k hp hk => congrArg _ (endTransaction_some hp hk kd)⟩

end Sys2Proof.Machine
end

section
/-! Address and data events (spec/41_transaction_engine.md R131 to R138): what each leaves, which records it writes, and
which device it touches. -/

namespace Sys2Proof.Machine

/-! ### The Stop a restart owes -/

/-- No Stop is owed from Idle, with nothing counted, or to an Empty slot (R125, R131). -/
theorem restartStop_none {s : State} (h : s.eng.phase = .idle ∨ s.eng.cnt = 0 ∨ s.deviceAt s.eng.slot = none) :
    restartStop s = s := by
  rcases h with h | h | h
  · exact restartStop_idle h
  · exact restartStop_fresh h
  · unfold restartStop
    split
    · rw [call_none h]
      rfl
    · rfl

/-- The Stop that is owed runs the old device's Stop handler with the count (R131, R138). -/
theorem restartStop_some {k : DeviceKind} {s : State} (hp : s.eng.phase ≠ .idle) (hc : s.eng.cnt ≠ 0)
    (hk : s.deviceAt s.eng.slot = some k) :
    restartStop s = calledState k s.eng.slot ⟨s.eng.dir, .stop⟩ s.eng.cnt s := by
  have hpend : s.eng.stopPending = true := by simpa [Engine.stopPending] using ⟨hp, hc⟩
  rw [restartStop, if_pos hpend, call_some hk]
  rfl

/-- The records of an owed Stop: one Call where one is owed, and the device's own. -/
theorem restartStop_records (s : State) :
    ∃ rs, (restartStop s).log = s.log ++ rs ∧ acksOf rs = [] ∧ txBytes rs = [] ∧
      ∀ k, s.deviceAt s.eng.slot = some k →
        callsOf rs =
          if s.eng.phase ≠ .idle ∧ s.eng.cnt ≠ 0 then [(s.eng.slot, ⟨s.eng.dir, .stop⟩, s.eng.cnt)] else [] := by
  by_cases howed : s.eng.phase ≠ .idle ∧ s.eng.cnt ≠ 0
  · obtain ⟨hp, hc⟩ := howed
    cases hk : s.deviceAt s.eng.slot with
    | none => exact ⟨[], by rw [restartStop_none (.inr (.inr hk)), List.append_nil], rfl, rfl, fun k h => by cases h⟩
    | some k =>
      obtain ⟨rs, hlog, hdev, -⟩ := calledState_log k s.eng.slot ⟨s.eng.dir, .stop⟩ s.eng.cnt s
      obtain ⟨hcalls, hacks, htx⟩ := readings_of_device hdev
      refine ⟨.call s.eng.slot ⟨s.eng.dir, .stop⟩ s.eng.cnt :: rs, by rw [restartStop_some hp hc hk, hlog], hacks, htx,
        fun k _ => ?_⟩
      rw [if_pos ⟨hp, hc⟩]
      exact congrArg (_ :: ·) hcalls
  · refine ⟨[], ?_, rfl, rfl, fun k _ => by rw [if_neg howed]; rfl⟩
    rw [List.append_nil, restartStop_none]
    by_cases hp : s.eng.phase = .idle
    · exact .inl hp
    · exact .inr (.inl (by simpa [hp] using howed))

/-! ### Address events -/

/-- The opened transaction, its registers written out (R131, R139). -/
theorem opened_eq (slot : Slot) (dir : Dir) (s : State) :
    opened slot dir s = { restartStop s with eng := drained .addressed slot dir, wd := armedWatchdog s.cfg } := by
  rw [← restartStop_cfg s]
  rfl

/-- The registers after a Start answer is installed (R111, R113). -/
theorem install_settled_start (d : Dir) (a : Answer) (t : State) :
    t.install (settled ⟨d, .start⟩ a) =
      { t with eng := { t.eng with cnt := 0, rem := a.cap, grant := if a.cap = 0 then none else a.grant } } := by
  by_cases hc : a.cap = 0
  · rw [settled_zero _ _ hc, hc]
    rfl
  · rw [settled_start d a hc, if_neg hc]
    rfl

/-- All that an address match on a registered slot does (R131). -/
theorem addressMatch_registered {slot : Slot} {k : DeviceKind} {s : State} (h : s.deviceAt slot = some k) (dir : Dir) :
    let r := restartStop s
    let a := handler k ⟨dir, .start⟩ 0
      { r with
        eng := drained .addressed slot dir, wd := armedWatchdog s.cfg
        log := r.log ++ [.call slot ⟨dir, .start⟩ 0] }
    addressMatch slot dir s =
      { a.2 with
        eng :=
          { phase := .addressed, slot := slot, dir := dir, cnt := 0, rem := a.1.cap
            grant := if a.1.cap = 0 then none else a.1.grant }
        log := a.2.log ++ [.ack .ack] } := by
  have he := (called_frame k slot ⟨dir, .start⟩ 0 (opened slot dir s)).eng
  rw [addressMatch_some h]
  simp only [settled_ack, handler_start_ack, install_settled_start, he]
  rw [opened_eq]
  rfl

/-- All that an address match on an Empty slot does (R131, R125, R284). -/
theorem addressMatch_unregistered {slot : Slot} {s : State} (h : s.deviceAt slot = none) (dir : Dir) :
    addressMatch slot dir s =
      { restartStop s with
        eng := drained .addressed slot dir, wd := armedWatchdog s.cfg
        log := (restartStop s).log ++ [.ack .nack] } := by
  rw [addressMatch_none h, opened_eq]
  rfl

/-- The records of an address match on a registered slot, after the owed Stop's: the Start's Call, the device's own, and
the acknowledge. -/
theorem addressMatch_records {slot : Slot} {k : DeviceKind} {s : State} (h : s.deviceAt slot = some k) (dir : Dir) :
    ∃ rs, (addressMatch slot dir s).log = (restartStop s).log ++ rs ∧ callsOf rs = [(slot, ⟨dir, .start⟩, 0)] ∧
      txBytes rs = [] := by
  obtain ⟨rs, hlog, hdev, -⟩ := calledState_log k slot ⟨dir, .start⟩ 0 (opened slot dir s)
  obtain ⟨hcalls, -, htx⟩ := readings_of_device hdev
  refine ⟨.call slot ⟨dir, .start⟩ 0 :: rs ++ [.ack .ack], ?_, ?_, ?_⟩
  · rw [addressMatch_some h]
    simp only [State.emit_log, State.install_log, settled_ack, handler_start_ack]
    exact (congrArg (· ++ [.ack .ack]) hlog).trans (List.append_assoc _ _ _)
  · rw [List.cons_append]
    exact congrArg (_ :: ·) (by rw [← callsOf, callsOf_append, hcalls]; rfl)
  · rw [List.cons_append]
    exact (txBytes_append rs [.ack .ack]).trans (by rw [htx]; rfl)

/-- Settles O12: the Start handler on the opened transaction, its answer installed, every Start acknowledged. -/
theorem addressMatchOpensTheTransaction : Obligations.AddressMatchOpensTheTransaction := by
  intro s slot dir k hk ha
  exact ⟨_, exec_evAddr ha dir, addressMatch_registered hk dir⟩

/-- Settles O13: the null device of an Empty slot answers Nack and no capacity. -/
theorem addressOfAnEmptySlotIsNacked : Obligations.AddressOfAnEmptySlotIsNacked := by
  intro s slot dir hn ha
  exact (exec_evAddr ha dir).trans (congrArg _ (addressMatch_unregistered hn dir))

/-- Settles O15: the owed Stop by its cases, and the calls of a restart from the records of its two halves. -/
theorem restartDeliversStopThenStart : Obligations.RestartDeliversStopThenStart := by
  refine ⟨fun s h => restartStop_none h, fun s k hp hc hk => restartStop_some hp hc hk, ?_⟩
  intro s slot dir kOld kNew hold hnew ha
  obtain ⟨rs, hlog, -, -, hcalls⟩ := restartStop_records s
  obtain ⟨qs, glog, gcalls, -⟩ := addressMatch_records hnew dir
  refine ⟨_, rs ++ qs, exec_evAddr ha dir, by rw [glog, hlog, List.append_assoc], ?_⟩
  rw [callsOf_append, hcalls kOld hold, gcalls]

/-! ### The records of a data event -/

/-- One byte is sent (R133). -/
theorem shiftOut_records (s : State) : ∃ b, (shiftOut s).log = s.log ++ [.tx b] := by
  unfold shiftOut
  split
  · exact ⟨_, rfl⟩
  · split
    · exact ⟨_, rfl⟩
    · exact ⟨_, rfl⟩

/-- The records of a call: none of an Empty slot, else the Call and the device's own. -/
theorem call_records (slot : Slot) (ph : Phase) (n : Count) (s : State) :
    ∃ a t rs, call slot ph n s = .answered a t ∧ t.log = s.log ++ rs ∧ acksOf rs = [] ∧ txBytes rs = [] := by
  cases hk : s.deviceAt slot with
  | none => exact ⟨_, _, [], call_none hk ph n, (List.append_nil _).symm, rfl, rfl⟩
  | some k =>
    obtain ⟨rs, hlog, hdev, -⟩ := calledState_log k slot ph n s
    obtain ⟨-, hacks, htx⟩ := readings_of_device hdev
    exact ⟨_, _, _, call_some hk ph n, hlog, hacks, htx⟩

/-- A byte of a read transaction: no acknowledge is driven and exactly one byte is sent (R133). -/
theorem sendByte_records (mNack : Bool) (s : State) :
    ∃ rs, (sendByte mNack s).log = s.log ++ rs ∧ acksOf rs = [] ∧ (txBytes rs).length = 1 := by
  unfold sendByte
  split
  · exact ⟨[.tx Config.fill], rfl, rfl, rfl⟩
  · split
    · obtain ⟨a, t, rs, hcall, hlog, hacks, htx⟩ :=
        call_records s.eng.slot ⟨.read, .boundary⟩ s.eng.cnt (openExchange s)
      obtain ⟨b, hb⟩ := shiftOut_records (t.install a)
      have hrefill : refill (openExchange s) = shiftOut (t.install a) := by
        unfold refill
        rw [show call (openExchange s).eng.slot _ (openExchange s).eng.cnt _ = _ from hcall]
      refine ⟨rs ++ [.tx b], ?_, ?_, ?_⟩
      · rw [hrefill, hb, State.install_log, hlog, List.append_assoc]
        rfl
      · rw [acksOf_append, hacks]
        rfl
      · rw [txBytes_append, htx]
        rfl
    · obtain ⟨b, hb⟩ := shiftOut_records (openExchange s)
      exact ⟨[.tx b], hb, rfl, rfl⟩

/-- A byte that fills a grant: one acknowledge after the call (R134). -/
theorem deliverFull_records (s : State) :
    ∃ rs, (deliverFull s).log = s.log ++ rs ∧ (acksOf rs).length = 1 ∧ txBytes rs = [] := by
  obtain ⟨a, t, rs, hcall, hlog, hacks, htx⟩ := call_records s.eng.slot ⟨.write, .boundary⟩ s.eng.cnt s
  refine ⟨rs ++ [.ack a.ack], ?_, ?_, ?_⟩
  · unfold deliverFull
    rw [hcall]
    simp [hlog]
  · rw [acksOf_append, hacks]
    rfl
  · rw [txBytes_append, htx]
    rfl

/-- A byte of a write transaction: exactly one acknowledge is driven and no byte is sent (R134). -/
theorem receiveByte_records (rx : Byte) (s : State) :
    ∃ rs, (receiveByte rx s).log = s.log ++ rs ∧ (acksOf rs).length = 1 ∧ txBytes rs = [] := by
  unfold receiveByte
  split
  · exact ⟨[.ack .nack], rfl, rfl, rfl⟩
  · split
    · exact ⟨[.ack .nack], rfl, rfl, rfl⟩
    · next sp i _ =>
      have hstored : ((openExchange s).storeByte sp i rx).countByte.log = s.log := by
        rw [storeByte_openExchange_countByte]
      split
      · obtain ⟨rs, hlog, hacks, htx⟩ := deliverFull_records ((openExchange s).storeByte sp i rx).countByte
        exact ⟨rs, by rw [hlog, hstored], hacks, htx⟩
      · exact ⟨[.ack .ack], by rw [State.emit_log, hstored], rfl, rfl⟩

/-! ### The byte received -/

/-- A byte stored inside its space is read back (R60). -/
theorem readByte_storeByte {sp : Space} {i : Nat} {s : State} (v : Byte) (hi : i < sp.size s.cfg)
    (hw : s.ee.win.length = s.cfg.eeWindow.toNat) (hm : Memory.wf s.sram.mem = true) :
    (s.storeByte sp i v).readByte sp i = some v := by
  cases sp with
  | eeStage => simp [State.storeByte, State.readByte, show i < 3 from hi]
  | eeWin =>
    have hlt : i < s.ee.win.length := by rw [hw]; exact hi
    simp [State.storeByte, State.readByte, hlt]
  | adcStage | adcRes | gpiStage => simp [State.storeByte, State.readByte, Nat.lt_one_iff.mp hi]
  | gpiRbuf => simp [State.storeByte, State.readByte, show i < 2 from hi]
  | sram => exact congrArg some (Memory.read_write_same hm)
  | sramStage => simp [State.storeByte, State.readByte, show i < 2 from hi]

theorem eeCommit_bytes (a : U16) (d : Byte) (s : State) :
    (eeCommit a d s).2.ee.stage = s.ee.stage ∧ (eeCommit a d s).2.ee.win = s.ee.win := by
  unfold eeCommit eeWrite
  split_ifs <;> exact ⟨rfl, rfl⟩

/-- WriteBufferFull changes no byte of any space (R187, R222, R243, R261, R262). -/
theorem readByte_writeBoundary (k : DeviceKind) (n : Count) (s : State) (sp : Space) (i : Nat) :
    (handler k ⟨.write, .boundary⟩ n s).2.readByte sp i = s.readByte sp i := by
  have hf := handler_frame k ⟨.write, .boundary⟩ n s
  have hbytes : ∀ t : State, t.ee.stage = s.ee.stage → t.ee.win = s.ee.win → t.adc.stage = s.adc.stage →
      t.adc.res = s.adc.res → t.gpi.stage = s.gpi.stage → t.gpi.rbuf = s.gpi.rbuf → t.sram.mem = s.sram.mem →
      t.sram.stage = s.sram.stage → t.readByte sp i = s.readByte sp i := by
    intro t h1 h2 h3 h4 h5 h6 h7 h8
    cases sp <;> simp only [State.readByte, h1, h2, h3, h4, h5, h6, h7, h8]
  cases k with
  | eeprom =>
    obtain ⟨hstage, hwin⟩ := eeCommit_bytes s.ee.stagedAddr s.ee.stage[2] (s.setEe { s.ee with cursor := s.ee.stagedAddr })
    exact hbytes _ hstage hwin (by rw [hf.adc (by decide)]) (by rw [hf.adc (by decide)]) (by rw [hf.gpi (by decide)])
      (by rw [hf.gpi (by decide)]) hf.mem (by rw [hf.sram (by decide)])
  | adc => cases sp <;> rfl
  | gpi =>
    have hg : (handler .gpi ⟨.write, .boundary⟩ n s).2.gpi = { s.gpi with mask := s.gpi.stage } := putGpi_gpi _ _
    exact hbytes _ (by rw [hf.ee (by decide)]) (by rw [hf.ee (by decide)]) (by rw [hf.adc (by decide)])
      (by rw [hf.adc (by decide)]) (by rw [hg]) (by rw [hg]) hf.mem (by rw [hf.sram (by decide)])
  | sram =>
    simp only [handler, sramWriteBufferFull]
    split <;> cases sp <;> rfl

@[simp] theorem readByte_emit (sp : Space) (i : Nat) (r : Record) (s : State) :
    (s.emit r).readByte sp i = s.readByte sp i := by
  cases sp <;> rfl

theorem readByte_deliverFull (s : State) (sp : Space) (i : Nat) : (deliverFull s).readByte sp i = s.readByte sp i := by
  cases h : s.deviceAt s.eng.slot with
  | none =>
    unfold deliverFull
    rw [call_none h]
    simp
  | some k =>
    rw [deliverFull_some h]
    simp [readByte_writeBoundary]

/-- The received byte stands at its granted address after the event, delivered or not (R134). -/
theorem receiveByte_stores {s : State} {w : Win} (hs : StaticInv s) (hi : grantInv s = true)
    (hg : s.eng.grant = some w) (hr : s.eng.rem ≠ 0) (rx : Byte) :
    (receiveByte rx s).readByte w.space (w.base + s.eng.cnt.toNat) = some rx := by
  have hdue := grantInv_due hi hg hr
  have hstored : ((openExchange s).storeByte w.space (w.base + s.eng.cnt.toNat) rx).countByte.readByte w.space
      (w.base + s.eng.cnt.toNat) = some rx :=
    (readByte_setEng _ _ _ _).trans (readByte_storeByte (s := openExchange s) rx hdue hs.win hs.mem)
  rw [receiveByte_due hr hg hdue]
  dsimp only
  split
  · exact (readByte_deliverFull _ _ _).trans hstored
  · exact hstored

/-- With capacity left there is a live grant (R26). -/
theorem grantInv_live {s : State} (hi : grantInv s = true) (hr : s.eng.rem ≠ 0) : ∃ w, s.eng.grant = some w := by
  cases hg : s.eng.grant with
  | some w => exact ⟨w, rfl⟩
  | none =>
    simp only [grantInv, hg, Bool.and_eq_true, beq_iff_eq] at hi
    exact absurd hi.2 hr

/-- The byte a read transaction has due is the one it sends (R133). -/
theorem sendByte_due {s : State} {w : Win} (hs : StaticInv s) (hi : grantInv s = true) (hg : s.eng.grant = some w)
    (hr : s.eng.rem ≠ 0) :
    ∃ b, s.readByte w.space (w.base + s.eng.cnt.toNat) = some b ∧ (sendByte false s).log = s.log ++ [.tx b] := by
  obtain ⟨b, hb, hsent⟩ := shiftOut_due (s := openExchange s) hr hg (grantInv_due hi hg hr) hs.win
  refine ⟨b, (readByte_openExchange _ _ s).symm.trans hb, ?_⟩
  rw [sendByte_wanted (.inl rfl), if_neg hr, hsent]
  rfl

/-- Settles O19: the direction selects receiving or sending, each with its records and its byte. -/
theorem dataDirectionIsTheTransactions : Obligations.DataDirectionIsTheTransactions := by
  intro s rx mNack i hinv hp hi
  have hrun (rx' : Byte) (m : Bool) (j : Instr) (hj : j = .evDataRx rx' m ∨ j = .evDataTx rx' m) :
      exec j s = .next (dataEvent rx' m s) := by
    rcases hj with rfl | rfl <;> rfl
  have hstatic := ((inv_iff s).mp hinv).1
  cases hd : s.eng.dir with
  | write =>
    obtain ⟨rs, hlog, hacks, htx⟩ := receiveByte_records rx s
    have hx (m : Bool) (j : Instr) (hj : j = .evDataRx rx m ∨ j = .evDataTx rx m) :
        exec j s = .next (receiveByte rx s) := by rw [hrun rx m j hj, dataEvent_write hp hd]
    refine ⟨_, rs, hx mNack i hi, hlog, fun _ => ⟨hacks, htx, fun w hg hr =>
      receiveByte_stores hstatic (inv_grantInv hinv) hg hr rx, fun m => ⟨hx m _ (.inl rfl), hx m _ (.inr rfl)⟩⟩,
      fun h => by cases h⟩
  | read =>
    obtain ⟨rs, hlog, hacks, htx⟩ := sendByte_records mNack s
    have hx (rx' : Byte) (j : Instr) (hj : j = .evDataRx rx' mNack ∨ j = .evDataTx rx' mNack) :
        exec j s = .next (sendByte mNack s) := by rw [hrun rx' mNack j hj, dataEvent_read hp hd]
    refine ⟨_, rs, hx rx i hi, hlog, (fun h => by cases h), fun _ => ⟨hacks, htx, fun w hg hr hm => ?_,
      fun rx' => ⟨hx rx' _ (.inl rfl), hx rx' _ (.inr rfl)⟩⟩⟩
    subst hm
    obtain ⟨b, hb, hsent⟩ := sendByte_due hstatic (inv_grantInv hinv) hg hr
    rw [List.append_cancel_left (hlog.symm.trans hsent), hb]
    rfl

/-! ### The SRAM byte received -/

theorem deliverFull_mem (s : State) : (deliverFull s).sram.mem = s.sram.mem := by
  obtain ⟨a, t, hcall, ⟨k, -, hf⟩, -⟩ := call_answered s.eng.slot ⟨.write, .boundary⟩ s.eng.cnt s
  unfold deliverFull
  rw [hcall]
  exact hf.mem

/-- A received byte changes the array only through the byte stored (R40, R134). -/
theorem receiveByte_mem {s : State} {w : Win} (hi : grantInv s = true) (hg : s.eng.grant = some w)
    (hr : s.eng.rem ≠ 0) (rx : Byte) :
    (receiveByte rx s).sram.mem = (s.storeByte w.space (w.base + s.eng.cnt.toNat) rx).sram.mem := by
  rw [receiveByte_due hr hg (grantInv_due hi hg hr), storeByte_openExchange_countByte]
  dsimp only
  split
  · rw [deliverFull_mem]
  · rfl

/-- Only a byte stored in the array changes it. -/
theorem storeByte_mem_other {sp : Space} (h : sp ≠ .sram) (i : Nat) (v : Byte) (s : State) :
    (s.storeByte sp i v).sram.mem = s.sram.mem := by
  cases sp <;> first | rfl | exact absurd rfl h

/-- Settles O21: the granted address lies below 512, so the byte written is at it and every other byte stays. -/
theorem writeDataByteStoresOneSramByte : Obligations.WriteDataByteStoresOneSramByte := by
  intro s rx mNack hp hd hi hm
  refine ⟨_, (exec_evDataRx rx mNack s).trans (by rw [dataEvent_write hp hd]), fun a ha => ?_⟩
  by_cases hr : s.eng.rem = 0
  · rw [receiveByte_empty hr]
    cases s.eng.grant with
    | none => rfl
    | some w => exact (if_neg fun h => h.1 hr).symm
  · obtain ⟨w, hg⟩ := grantInv_live hi hr
    simp only [receiveByte_mem hi hg hr, hg]
    by_cases hsp : w.space = .sram
    · have hdue : w.base + s.eng.cnt.toNat < Config.sramSize := by
        have hdue := grantInv_due hi hg hr
        rwa [hsp] at hdue
      have hmem : (s.storeByte w.space (w.base + s.eng.cnt.toNat) rx).sram.mem =
          Memory.write (w.base + s.eng.cnt.toNat) rx s.sram.mem := by
        simp only [hsp, State.storeByte, State.setSram_sram, Nat.mod_eq_of_lt hdue]
      rw [hmem]
      by_cases haddr : a = w.base + s.eng.cnt.toNat
      · rw [if_pos ⟨hr, hsp, haddr⟩, haddr]
        exact Memory.read_write_same hm
      · rw [if_neg fun h => haddr h.2.2]
        exact Memory.read_write_other rx _ haddr
    · rw [if_neg fun h => hsp h.2.1, storeByte_mem_other hsp]

/-! ### The devices an event leaves alone -/

/-- The device's state is the same (R40, R126). -/
def SameDevice (k : DeviceKind) (s t : State) : Prop :=
  match k with
  | .eeprom => t.ee = s.ee
  | .adc => t.adc = s.adc
  | .gpi => t.gpi = s.gpi
  | .sram => t.sram = s.sram

theorem SameDevice.refl (k : DeviceKind) (s : State) : SameDevice k s s := by
  cases k <;> rfl

theorem SameDevice.trans {k : DeviceKind} {s t u : State} (h : SameDevice k s t) (g : SameDevice k t u) :
    SameDevice k s u := by
  cases k <;> exact Eq.trans g h

theorem DeviceFrame.same {j k : DeviceKind} {s t : State} (h : DeviceFrame j s t) (hne : j ≠ k) : SameDevice k s t := by
  cases k
  · exact h.ee hne
  · exact h.adc hne
  · exact h.gpi hne
  · exact h.sram hne

/-- A call touches the called slot's device only (R123). -/
theorem call_same {slot : Slot} {k : DeviceKind} {s : State} (h : s.deviceAt slot ≠ some k) (ph : Phase) (n : Count) :
    ∃ a t, call slot ph n s = .answered a t ∧ SameDevice k s t := by
  obtain ⟨a, t, hcall, ⟨j, hj, hf⟩, -⟩ := call_answered slot ph n s
  refine ⟨a, t, hcall, ?_⟩
  rcases hj with hj | rfl
  · exact hf.same fun hjk => h (hj.trans (congrArg some hjk))
  · exact .refl k _

theorem storeByte_same {sp : Space} {k : DeviceKind} (h : sp.owner ≠ k) (i : Nat) (v : Byte) (s : State) :
    SameDevice k s (s.storeByte sp i v) := by
  cases sp <;> cases k <;> first | rfl | exact absurd rfl h

/-- A record, an engine register or the watchdog is no device's state. -/
theorem SameDevice.emit {k : DeviceKind} {s t : State} (h : SameDevice k s t) (r : Record) : SameDevice k s (t.emit r) := by
  cases k <;> exact h

theorem SameDevice.setEng {k : DeviceKind} {s t : State} (h : SameDevice k s t) (e : Engine) :
    SameDevice k s (t.setEng e) := by
  cases k <;> exact h

theorem SameDevice.setWd {k : DeviceKind} {s t : State} (h : SameDevice k s t) (w : Watchdog) :
    SameDevice k s (t.setWd w) := by
  cases k <;> exact h

theorem shiftOut_same (k : DeviceKind) (s : State) : SameDevice k s (shiftOut s) := by
  unfold shiftOut
  split
  · exact (SameDevice.refl k s).emit _
  · split
    · exact (SameDevice.refl k s).emit _
    · exact ((SameDevice.refl k s).setEng _).emit _

theorem openExchange_same (k : DeviceKind) (s : State) : SameDevice k s (openExchange s) :=
  ((SameDevice.refl k s).setWd _).setEng _

theorem sendByte_same {k : DeviceKind} {s : State} (h : s.deviceAt s.eng.slot ≠ some k) (mNack : Bool) :
    SameDevice k s (sendByte mNack s) := by
  have ho := openExchange_same k s
  unfold sendByte
  split
  · exact ho.emit _
  · split
    · obtain ⟨a, t, hcall, ht⟩ := call_same (s := openExchange s) h ⟨.read, .boundary⟩ s.eng.cnt
      unfold refill
      rw [show call (openExchange s).eng.slot _ (openExchange s).eng.cnt _ = _ from hcall]
      exact (ho.trans (ht.setEng _)).trans (shiftOut_same k _)
    · exact ho.trans (shiftOut_same k _)

theorem deliverFull_same {k : DeviceKind} {s : State} (h : s.deviceAt s.eng.slot ≠ some k) :
    SameDevice k s (deliverFull s) := by
  obtain ⟨a, t, hcall, ht⟩ := call_same h ⟨.write, .boundary⟩ s.eng.cnt
  unfold deliverFull
  rw [hcall]
  exact (ht.setEng _).emit _

theorem receiveByte_same {k : DeviceKind} {s : State} (hi : grantInv s = true) (h : s.deviceAt s.eng.slot ≠ some k)
    (rx : Byte) : SameDevice k s (receiveByte rx s) := by
  have ho := openExchange_same k s
  by_cases hr : s.eng.rem = 0
  · rw [receiveByte_empty hr]
    exact ho.emit _
  · obtain ⟨w, hg⟩ := grantInv_live hi hr
    obtain ⟨-, -, hdev⟩ := grantInv_some hi hg
    have howner : w.space.owner ≠ k := fun hk => h (hdev.trans (congrArg some hk))
    have hstored : SameDevice k s ((openExchange s).storeByte w.space (w.base + s.eng.cnt.toNat) rx).countByte :=
      (ho.trans (storeByte_same howner _ _ _)).setEng _
    have hslot : ((openExchange s).storeByte w.space (w.base + s.eng.cnt.toNat) rx).countByte.deviceAt
        ((openExchange s).storeByte w.space (w.base + s.eng.cnt.toNat) rx).countByte.eng.slot ≠ some k := by
      rw [storeByte_openExchange_countByte]
      exact fun hk => h ((storeByte_deviceAt _ _ _ s s.eng.slot).symm.trans hk)
    rw [receiveByte_due hr hg (grantInv_due hi hg hr)]
    dsimp only
    split
    · exact hstored.trans (deliverFull_same hslot)
    · exact hstored.emit _

theorem restartStop_same {k : DeviceKind} {s : State} (h : s.deviceAt s.eng.slot ≠ some k) :
    SameDevice k s (restartStop s) := by
  obtain ⟨j, hj, hf⟩ := restartStop_frame s
  rcases hj with hj | hj
  · exact hf.same fun hjk => h (hj.trans (congrArg some hjk))
  · rw [hj]
    exact .refl k s

theorem addressMatch_same {k : DeviceKind} {slot : Slot} {s : State} (hold : s.deviceAt s.eng.slot ≠ some k)
    (hnew : s.deviceAt slot ≠ some k) (dir : Dir) : SameDevice k s (addressMatch slot dir s) := by
  have ho : SameDevice k s (opened slot dir s) := ((restartStop_same hold).setEng _).setWd _
  cases hdev : s.deviceAt slot with
  | none =>
    rw [addressMatch_none hdev]
    exact (ho.setEng _).emit _
  | some j =>
    have hne : j ≠ k := fun hjk => hnew (hdev.trans (congrArg some hjk))
    rw [addressMatch_some hdev]
    exact ((ho.trans ((called_frame j slot ⟨dir, .start⟩ 0 (opened slot dir s)).same hne)).setEng _).emit _

theorem endTransaction_same {k : DeviceKind} {s : State} (h : s.deviceAt s.eng.slot ≠ some k) (kind : PhaseKind) :
    SameDevice k s (endTransaction kind s) := by
  unfold endTransaction
  split
  · exact .refl k s
  · obtain ⟨a, t, hcall, ht⟩ := call_same h ⟨s.eng.dir, kind⟩ s.eng.cnt
    rw [hcall]
    exact (ht.setEng _).setWd _

/-- An event touches the transaction's device and the addressed one only (R40, R126). -/
theorem busEvent_same {k : DeviceKind} {s : State} (hi : grantInv s = true) (h : s.deviceAt s.eng.slot ≠ some k)
    (e : BusEvent) (he : ∀ a, e = .addr a → s.deviceAt (slotOf a) ≠ some k) : SameDevice k s (busEvent e s) := by
  cases e with
  | addr a =>
    simp only [busEvent, addressEvent]
    split
    · exact addressMatch_same h (he a rfl) _
    · exact .refl k s
  | data rx m =>
    simp only [busEvent, dataEvent]
    split
    · exact ((SameDevice.refl k s).emit _).emit _
    · exact sendByte_same h m
    · exact receiveByte_same hi h rx
  | stop => exact endTransaction_same h .stop
  | error => exact endTransaction_same h .error

/-- Settles O24: the device states an event leaves alone, kind by kind. -/
theorem eventsLeaveOtherDevicesAlone : Obligations.EventsLeaveOtherDevicesAlone := by
  intro s e hi
  refine ⟨_, exec_decodeEvent s.ctx e s, fun k hk he => ?_⟩
  have hsame := busEvent_same hi hk e he
  cases k <;> exact hsame

end Sys2Proof.Machine
end

section
/-! Runs of events: the tick and its expiry law (spec/42_bus_watchdog.md), bus traces and the frames they are cut into
(spec/30_encoding.md R97), the Empty slot (R125), and the error causes (spec/60_exceptions.md). -/

namespace Sys2Proof.Machine

/-! ### Events one after another -/

@[simp] theorem busEvent_fault (e : BusEvent) (s : State) : (busEvent e s).fault = s.fault :=
  (changes_busEvent e s).kept.fault

@[simp] theorem busEvent_cfg (e : BusEvent) (s : State) : (busEvent e s).cfg = s.cfg := (changes_busEvent e s).kept.cfg

@[simp] theorem busEvents_fault (es : List BusEvent) (s : State) : (busEvents es s).fault = s.fault :=
  (changes_busEvents es s).kept.fault

@[simp] theorem busEvents_cfg (es : List BusEvent) (s : State) : (busEvents es s).cfg = s.cfg :=
  (changes_busEvents es s).kept.cfg

theorem busEvents_cons {s : State} (hf : s.fault = none) (e : BusEvent) (es : List BusEvent) :
    busEvents (e :: es) s = busEvents es (busEvent e s) := by
  rw [busEvents, hf]

theorem busEvents_append {s : State} (hf : s.fault = none) (es fs : List BusEvent) :
    busEvents (es ++ fs) s = busEvents fs (busEvents es s) := by
  induction es generalizing s with
  | nil => rfl
  | cons e es ih =>
    have hf' : (busEvent e s).fault = none := (busEvent_fault e s).trans hf
    rw [List.cons_append, busEvents_cons hf, busEvents_cons hf, ih hf']

/-- The event rows run one after another are their events (R95). -/
theorem execAll_events (c : Ctx) (es : List BusEvent) {s : State} (hf : s.fault = none) :
    execAll (es.map (decodeEvent c)) s = some (busEvents es s) := by
  induction es generalizing s with
  | nil => rfl
  | cons e es ih =>
    have hf' : (busEvent e s).fault = none := (busEvent_fault e s).trans hf
    simp only [List.map_cons, execAll, exec_decodeEvent, ih hf', busEvents_cons hf]

theorem execAll_cons {i : Instr} {s t : State} (h : exec i s = .next t) (is : List Instr) :
    execAll (i :: is) s = execAll is t := by
  simp only [execAll, h]

/-! ### The tick -/

/-- With no fault, a tick is the watchdog step, the events taken between its sections, the GPI step (R163, R292). -/
theorem tickEvent_eq {s : State} (hf : s.fault = none) (es : List BusEvent) :
    tickEvent es s = gpiTick (busEvents es (watchdogStep s)) := by
  have hf' : (busEvents es (watchdogStep s)).fault = none := by simp [hf]
  unfold tickEvent
  rw [hf']

/-- Settles O27: no event raises a fault, so the tick runs to its GPI step. -/
theorem tickTakesEventsBetweenItsSections : Obligations.TickTakesEventsBetweenItsSections := by
  intro s es hinv
  have hf := inv_fault hinv
  have hf' : (watchdogStep s).fault = none := (watchdogStep_fault s).trans hf
  exact ⟨_, execAll_events s.ctx es hf', by simp [hf], congrArg Host.Outcome.next (tickEvent_eq hf es)⟩

/-- The watchdog step changes the engine, the watchdog and the log only (R161, R162). -/
theorem watchdogStep_eq (s : State) :
    watchdogStep s =
      { s with eng := (watchdogStep s).eng, wd := (watchdogStep s).wd, log := (watchdogStep s).log } := by
  cases he : s.wd.enabled with
  | false => rw [watchdogStep_disabled he]
  | true =>
    rcases Nat.lt_or_ge 1 s.wd.count with hc | hc
    · rw [watchdogStep_running he hc]
    · rw [watchdogStep_expiring he hc]

/-- A device kind sits in some slot (R163). -/
theorem holds_iff (k : DeviceKind) (s : State) : s.holds k = true ↔ ∃ slot, s.deviceAt slot = some k := by
  simp only [State.holds, Bool.or_eq_true, beq_iff_eq]
  constructor
  · rintro (((h | h) | h) | h)
    · exact ⟨0, h⟩
    · exact ⟨1, h⟩
    · exact ⟨2, h⟩
    · exact ⟨3, h⟩
  · rintro ⟨⟨slot⟩, h⟩
    fin_cases slot
    · exact .inl (.inl (.inl h))
    · exact .inl (.inl (.inr h))
    · exact .inl (.inr h)
    · exact .inr h

/-- Off the sampling period the tick only counts (R163). -/
theorem gpiTick_early {s : State} (h : s.gpiCount + 1 ≠ s.cfg.gpiPeriod) :
    gpiTick s = s.setGpiCount (s.gpiCount + 1) := if_neg h

/-- At the sampling period without a GPI device the tick starts a new period (R163). -/
theorem gpiTick_absent {s : State} (h : s.gpiCount + 1 = s.cfg.gpiPeriod) (hn : s.holds .gpi = false) :
    gpiTick s = s.setGpiCount 0 := by
  have hn' : (s.setGpiCount 0).holds .gpi = false := hn
  rw [gpiTick, if_pos h, gpiPeriodic, hn']
  rfl

/-- At the sampling period with a GPI device the tick samples the pins (R163, R250). -/
theorem gpiTick_sampling {s : State} (h : s.gpiCount + 1 = s.cfg.gpiPeriod) (hy : s.holds .gpi = true) :
    gpiTick s = gpiSample (s.setGpiCount 0) := by
  have hy' : (s.setGpiCount 0).holds .gpi = true := hy
  rw [gpiTick, if_pos h, gpiPeriodic, hy']
  rfl

/-- The GPI step of a tick leaves the engine, the watchdog and the other devices alone. -/
theorem gpiTick_frame (s : State) : (gpiTick s).eng = s.eng ∧ (gpiTick s).wd = s.wd ∧ (gpiTick s).ee = s.ee ∧
    (gpiTick s).adc = s.adc ∧ (gpiTick s).sram = s.sram := by
  unfold gpiTick gpiPeriodic
  split_ifs
  · have hf := gpiSample_frame (s.setGpiCount 0)
    exact ⟨hf.eng, hf.wd, hf.ee (by decide), hf.adc (by decide), hf.sram (by decide)⟩
  · exact ⟨rfl, rfl, rfl, rfl, rfl⟩
  · exact ⟨rfl, rfl, rfl, rfl, rfl⟩

/-- Settles O26: the three cases of the GPI step, on the state the watchdog step leaves. -/
theorem tickSamplesThePinsAtItsPeriod : Obligations.TickSamplesThePinsAtItsPeriod := by
  intro s hf
  refine ⟨_, exec_evTick_nil hf, ?_⟩
  intro v
  have hv : v = { s with eng := v.eng, wd := v.wd, log := v.log } := watchdogStep_eq s
  have hcount : v.gpiCount = s.gpiCount := by rw [hv]
  have hcfg : v.cfg = s.cfg := by rw [hv]
  have hgpi : v.gpi = s.gpi := by rw [hv]
  have hholds : v.holds .gpi = s.holds .gpi := by rw [hv]; rfl
  have hans : v.answerTo .pinRead = s.answerTo .pinRead := by rw [hv]; rfl
  have hasked : v.asked = s.asked := by rw [hv]
  obtain ⟨heng, hwd, hee, hadc, hsram⟩ := gpiTick_frame v
  have hkept := (changes_gpiTick v).kept
  refine ⟨heng, hwd, by rw [hee, hv], by rw [hadc, hv], by rw [hsram, hv], by rw [hkept.reg, hv],
    by rw [hkept.fault, hv, hf], fun hearly => ?_, fun hdue => ⟨?_, fun hno => ?_, fun hyes => ?_⟩⟩
  · rw [gpiTick_early (by rw [hcount, hcfg]; exact hearly), hcount]
    rfl
  all_goals have hdue' : v.gpiCount + 1 = v.cfg.gpiPeriod := by rw [hcount, hcfg]; exact hdue
  · cases hh : v.holds .gpi with
    | false => rw [gpiTick_absent hdue' hh]; rfl
    | true => rw [gpiTick_sampling hdue' hh, (gpiSample_frame _).gpiCount]; rfl
  · have hh : v.holds .gpi = false := by
      rw [hholds, ← Bool.not_eq_true, holds_iff]
      rintro ⟨slot, hslot⟩
      exact hno slot hslot
    rw [gpiTick_absent hdue' hh]
    rfl
  · have hh : v.holds .gpi = true := by rw [hholds, holds_iff]; exact hyes
    rw [gpiTick_sampling hdue' hh, gpiSample_eq]
    have hans' : (v.setGpiCount 0).answerTo .pinRead = s.answerTo .pinRead := hans
    simp only [State.setGpiCount_gpi, State.setGpiCount_log, State.setGpiCount_asked, hans', hgpi, hasked]
    exact ⟨⟨_, rfl, rfl⟩, trivial, rfl⟩

/-- The records of the GPI step: a change of the line, or none. -/
theorem gpiTick_records (s : State) :
    ∃ rs, (gpiTick s).log = s.log ++ rs ∧ callsOf rs = [] ∧ restarts rs = 0 := by
  unfold gpiTick gpiPeriodic
  split_ifs
  · rw [gpiSample_eq]
    refine ⟨_, rfl, ?_⟩
    unfold irqRecords
    split <;> exact ⟨rfl, rfl⟩
  · exact ⟨[], (List.append_nil _).symm, rfl, rfl⟩
  · exact ⟨[], (List.append_nil _).symm, rfl, rfl⟩

@[simp] theorem restarts_append (rs qs : List Record) : restarts (rs ++ qs) = restarts rs + restarts qs :=
  List.count_append

/-- A tick calls no device, and restarts the peripheral exactly where its watchdog runs out (R161, R162). -/
theorem tick_records {s : State} (hf : s.fault = none) :
    ∃ t rs, exec (.evTick []) s = .next t ∧ t.log = s.log ++ rs ∧ callsOf rs = [] ∧
      restarts rs = (if s.wd.enabled = true ∧ s.wd.count - 1 = 0 then 1 else 0) ∧ t.fault = none ∧
      t.eng = (watchdogStep s).eng ∧ t.wd = (watchdogStep s).wd ∧ t.ee = s.ee ∧ t.adc = s.adc ∧ t.sram = s.sram := by
  obtain ⟨heng, hwd, hee, hadc, hsram⟩ := gpiTick_frame (watchdogStep s)
  obtain ⟨rs, hlog, hcalls, hnone⟩ := gpiTick_records (watchdogStep s)
  have hv := watchdogStep_eq s
  obtain ⟨qs, glog, gcalls, grestarts⟩ : ∃ qs, (watchdogStep s).log = s.log ++ qs ∧ callsOf qs = [] ∧
      restarts qs = if s.wd.enabled = true ∧ s.wd.count - 1 = 0 then 1 else 0 := by
    cases he : s.wd.enabled with
    | false => exact ⟨[], by rw [watchdogStep_disabled he, List.append_nil], rfl, rfl⟩
    | true =>
      rcases Nat.lt_or_ge 1 s.wd.count with hc | hc
      · refine ⟨[], by rw [watchdogStep_running he hc, List.append_nil], rfl, ?_⟩
        rw [if_neg fun h => by omega]
        rfl
      · refine ⟨[.periphRestart], by rw [watchdogStep_expiring he hc], rfl, ?_⟩
        rw [if_pos ⟨rfl, by omega⟩]
        rfl
  refine ⟨_, qs ++ rs, exec_evTick_nil hf, by rw [hlog, glog, List.append_assoc], ?_, ?_, ?_, heng, hwd, ?_, ?_, ?_⟩
  · rw [callsOf_append, gcalls, hcalls]
    rfl
  · rw [restarts_append, grestarts, hnone, Nat.add_zero]
  · rw [(changes_gpiTick _).kept.fault, watchdogStep_fault, hf]
  · rw [hee, hv]
  · rw [hadc, hv]
  · rw [hsram, hv]

/-- Ticks in silence: a disabled watchdog stays so; a running one counts down, and runs out once (R161, R162, R165). -/
theorem silent_ticks (n : Nat) {s : State} (hf : s.fault = none) :
    ∃ t rs, execAll (List.replicate n (.evTick [])) s = some t ∧ t.log = s.log ++ rs ∧ callsOf rs = [] ∧
      t.ee = s.ee ∧ t.adc = s.adc ∧ t.sram = s.sram ∧
      (s.wd.enabled = false → t.eng = s.eng ∧ t.wd = s.wd ∧ restarts rs = 0) ∧
      (s.wd.enabled = true → 1 ≤ s.wd.count →
        (n < s.wd.count → t.eng = s.eng ∧ t.wd.count = s.wd.count - n ∧ restarts rs = 0) ∧
        (s.wd.count ≤ n → t.eng = drained .idle s.eng.slot s.eng.dir ∧ t.wd = offWatchdog ∧ restarts rs = 1)) := by
  induction n generalizing s with
  | zero =>
    refine ⟨s, [], rfl, (List.append_nil _).symm, rfl, rfl, rfl, rfl, fun _ => ⟨rfl, rfl, rfl⟩, fun _ hc => ⟨fun _ =>
      ⟨rfl, rfl, rfl⟩, fun h0 => by omega⟩⟩
  | succ n ih =>
    obtain ⟨u, qs, hu, glog, gcalls, grestarts, hfu, heng, hwd, hee, hadc, hsram⟩ := tick_records hf
    obtain ⟨t, rs, ht, hlog, hcalls, tee, tadc, tsram, hoff, hrun⟩ := ih hfu
    refine ⟨t, qs ++ rs, (execAll_cons hu _).trans ht, by rw [hlog, glog, List.append_assoc],
      by rw [callsOf_append, gcalls, hcalls]; rfl, tee.trans hee, tadc.trans hadc, tsram.trans hsram, fun he => ?_,
      fun he hc => ?_⟩
    · rw [watchdogStep_disabled he] at heng hwd
      obtain ⟨teng, twd, trestarts⟩ := hoff (by rw [hwd]; exact he)
      exact ⟨teng.trans heng, twd.trans hwd, by rw [restarts_append, grestarts, trestarts, he]; rfl⟩
    · rcases Nat.lt_or_ge 1 s.wd.count with hgt | hle
      · rw [watchdogStep_running he hgt] at heng hwd
        have hcount : u.wd.count = s.wd.count - 1 := by rw [hwd]
        have hnone : restarts qs = 0 := by rw [grestarts, if_neg fun h => by omega]
        obtain ⟨hbefore, hafter⟩ := hrun (by rw [hwd]) (by omega)
        refine ⟨fun hn => ?_, fun hn => ?_⟩
        · obtain ⟨teng, twd, trestarts⟩ := hbefore (by omega)
          exact ⟨teng.trans heng, by omega, by rw [restarts_append, hnone, trestarts]⟩
        · obtain ⟨teng, twd, trestarts⟩ := hafter (by omega)
          exact ⟨by rw [teng, heng], twd, by rw [restarts_append, hnone, trestarts]⟩
      · rw [watchdogStep_expiring he hle] at heng hwd
        have hone : restarts qs = 1 := by rw [grestarts, if_pos ⟨he, by omega⟩]
        obtain ⟨teng, twd, trestarts⟩ := hoff (by rw [hwd]; rfl)
        exact ⟨fun hn => by omega, fun _ => ⟨teng.trans heng, twd.trans hwd, by rw [restarts_append, hone, trestarts]⟩⟩

/-- Settles O28: by induction on the ticks, the watchdog just armed at `P_TIMEOUT`. -/
theorem silenceRestartsThePeripheralOnce : Obligations.SilenceRestartsThePeripheralOnce := by
  intro s n hinv hp hcount
  obtain ⟨hstatic, heng⟩ := (inv_iff s).mp hinv
  have he : s.wd.enabled = true := by
    have hwd := heng.watchdog
    simp only [watchdogInv, Bool.and_eq_true, beq_iff_eq] at hwd
    rw [hwd.1]
    simpa using hp
  have htime := (Params.wf_bounds hstatic.cfg).1
  obtain ⟨t, rs, ht, hlog, hcalls, hee, hadc, hsram, -, hrun⟩ := silent_ticks n hstatic.fault
  rw [← hcount] at htime ⊢
  obtain ⟨hbefore, hafter⟩ := hrun he htime
  exact ⟨t, rs, ht, hlog, hbefore, hafter, hcalls, hee, hadc, hsram⟩

/-! ### Bus traces -/

theorem tokenEvents_append (p : Params) (h : Heard) (ts us : List Token) :
    tokenEvents p h (ts ++ us) = tokenEvents p h ts ++ tokenEvents p (ts.foldl (Heard.after p) h) us := by
  induction ts generalizing h with
  | nil => rfl
  | cons t ts ih => rw [List.cons_append, tokenEvents, tokenEvents, ih, List.append_assoc]; rfl

/-- A token that ends a transaction of a trace (R97). -/
def endsTrace : Token → Bool
  | .stop => true
  | .error => true
  | .restart => true
  | .start => true
  | .byte _ => false
  | .req => false
  | .reqNack => false

/-- After a byte or a request, data slots stay data slots. -/
theorem heard_data_after (p : Params) {ts : List Token} (h : ∀ t ∈ ts, endsTrace t = false) :
    ts.foldl (Heard.after p) .data = .data := by
  induction ts with
  | nil => rfl
  | cons t ts ih =>
    have ht := h t List.mem_cons_self
    have hstep : Heard.data.after p t = .data := by cases t <;> first | rfl | cases ht
    rw [List.foldl_cons, hstep]
    exact ih fun q hq => h q (List.mem_cons_of_mem t hq)

/-- What the tokens collected since the last start condition are heard as, and those tokens. -/
def openTokens : Option (List Token) → Heard × List Token
  | none => (.data, [])
  | some ts => (.address, ts)

/-- The items of one token run as the token's event. -/
theorem run_items (t : Token) {s : State} (hf : s.fault = none) :
    t.items.foldl (fun u it => runItem it u) s = busEvents t.event.toList s := by
  unfold Token.items
  cases t.event with
  | none => rfl
  | some e => exact (busEvents_cons hf e []).symm

/-- The tokens of a frame that decodes are heard as data after its address byte. -/
theorem heard_after_frame {c : Ctx} {ts : List Token} {i : Instr} (h : decodeFrame c ts = .ok i)
    (hts : ∀ t ∈ ts, endsTrace t = false) : ts.foldl (Heard.after c.cfg) .address = .data := by
  unfold decodeFrame at h
  split at h
  · next a us =>
    split at h
    · next hsel =>
      have hstep : Heard.address.after c.cfg (.byte a) = .data := if_pos hsel
      rw [List.foldl_cons, hstep]
      exact heard_data_after c.cfg fun q hq => hts q (List.mem_cons_of_mem _ hq)
    · cases h
  · cases h

/-- What is open at a token that ends it runs as its tokens' events, that token's among them. -/
theorem run_cutEnd {c : Ctx} {cur : Option (List Token)} {e : Token} {s : State} (hf : s.fault = none)
    (hc : s.cfg = c.cfg) (he : endsTrace e = true) (hcur : ∀ t ∈ (openTokens cur).2, endsTrace t = false) :
    (cutEnd c cur e).foldl (fun u it => runItem it u) s =
      busEvents (tokenEvents c.cfg (openTokens cur).1 ((openTokens cur).2 ++ [e])) s := by
  have hevent : ∀ h : Heard, h ≠ .ignored → tokenEvents c.cfg h [e] = e.event.toList := fun h hh => by
    cases h with
    | ignored => exact absurd rfl hh
    | address | data => cases e <;> first | rfl | cases he
  cases cur with
  | none =>
    rw [show (openTokens none).2 ++ [e] = [e] from rfl, hevent _ (by decide)]
    exact run_items e hf
  | some ts =>
    cases ts with
    | nil =>
      rw [show (openTokens (some [])).2 ++ [e] = [e] from rfl, hevent _ (by decide)]
      exact run_items e hf
    | cons t ts =>
      simp only [cutEnd, openTokens, cutFrame]
      cases hd : decodeFrame c (t :: ts) with
      | error => simp only [List.foldl_cons, List.foldl_nil, runItem, runTokens, hc]
      | ok i =>
        have hdata := heard_after_frame hd hcur
        rw [tokenEvents_append, hdata, busEvents_append hf, hevent _ (by decide)]
        simp only [List.foldl_cons, runItem, runTokens, hc]
        exact run_items e (by simp [hf])

/-- After a token that ends a transaction, what is heard does not depend on what was (R95, R97). -/
theorem heard_after_ends (p : Params) (c : Ctx) (cur : Option (List Token)) (h : Heard) {e : Token}
    (he : endsTrace e = true) : cutToken c cur e = (cutEnd c cur e, (cutToken c cur e).2) ∧
      openTokens (cutToken c cur e).2 = (h.after p e, []) := by
  cases e with
  | stop | error | restart | start => cases cur <;> cases h <;> exact ⟨rfl, rfl⟩
  | byte | req | reqNack => cases he

/-- The items a trace is cut into do, one after another, what its tokens do. -/
theorem run_cutFrom {c : Ctx} (ts : List Token) {cur : Option (List Token)} {s : State} (hf : s.fault = none)
    (hc : s.cfg = c.cfg) (hcur : ∀ t ∈ (openTokens cur).2, endsTrace t = false) :
    (cutFrom c cur ts).foldl (fun u it => runItem it u) s =
      busEvents (tokenEvents c.cfg (openTokens cur).1 ((openTokens cur).2 ++ ts)) s := by
  induction ts generalizing cur s with
  | nil =>
    match cur with
    | none => rfl
    | some [] => rfl
    | some (t :: ts) => simp only [cutFrom, cutOpen, List.foldl_cons, List.foldl_nil, runItem, runTokens, hc, openTokens,
        List.append_nil]
  | cons t ts ih =>
    rw [cutFrom, List.foldl_append]
    cases hends : endsTrace t with
    | true =>
      obtain ⟨hitems, hopen⟩ :=
        heard_after_ends c.cfg c cur ((openTokens cur).2.foldl (Heard.after c.cfg) (openTokens cur).1) hends
      have hsplit : (openTokens cur).2 ++ t :: ts = ((openTokens cur).2 ++ [t]) ++ ts := List.append_cons _ _ _
      rw [hitems, run_cutEnd hf hc hends hcur, ih (by simp [hf]) (by simp [hc]) (by simp [hopen]), hopen, hsplit,
        tokenEvents_append c.cfg _ ((openTokens cur).2 ++ [t]) ts, busEvents_append hf, List.foldl_append]
      rfl
    | false =>
      cases cur with
      | none =>
        have hcut : cutToken c none t = (t.items, none) := by cases t <;> first | rfl | cases hends
        have hafter : Heard.data.after c.cfg t = .data := heard_data_after c.cfg (ts := [t]) (by simpa using hends)
        rw [hcut, run_items t hf, ih (by simp [hf]) (by simp [hc]) (by simp [openTokens]), ← busEvents_append hf]
        simp only [openTokens, List.nil_append, tokenEvents, hafter]
        rfl
      | some us =>
        have hcut : cutToken c (some us) t = ([], some (us ++ [t])) := by cases t <;> first | rfl | cases hends
        have hus : ∀ q ∈ us ++ [t], endsTrace q = false := by
          intro q hq
          rcases List.mem_append.mp hq with hq | hq
          · exact hcur q hq
          · rw [List.mem_singleton.mp hq]; exact hends
        rw [hcut, List.foldl_nil, ih (cur := some (us ++ [t])) hf hc hus]
        simp only [openTokens, List.append_assoc, List.singleton_append]

/-- Settles O58: a frame row runs its item, a cut trace its items, and the events of tokens by their lemmas. -/
theorem framesAndTracesAreTheirEvents : Obligations.FramesAndTracesAreTheirEvents := by
  refine ⟨fun s ts i hd => ?_, fun s ts hf => ?_, fun p h t ts ht => ?_, fun p a bs reqs ts hsel => ⟨?_, ?_⟩,
    fun p bs ts => ?_⟩
  · have henc := encodeOfDecodeIsTheItem s.ctx (.frame ts) i hd
    rcases exec_runItem i s with hrun | ⟨k, ph, n, rfl⟩
    · rw [hrun, henc]
      rfl
    · rw [encode_decodePhase] at henc
      cases henc
  · exact run_cutFrom ts hf rfl (by simp [openTokens])
  · rcases ht with rfl | rfl <;> cases h <;> rfl
  · have haddr : tokenEvents p .address [.byte a] = [.addr a] := by simp [tokenEvents, Heard.event, hsel]
    have hafter : [Token.byte a].foldl (Heard.after p) .address = .data := if_pos hsel
    have hdata := heard_data_after p (ts := bs.map .byte) (by simp [endsTrace])
    rw [← List.singleton_append, List.append_assoc, tokenEvents_append, haddr, hafter, tokenEvents_append, hdata,
      tokenEvents_bytes]
    rfl
  · have haddr : tokenEvents p .address [.byte a] = [.addr a] := by simp [tokenEvents, Heard.event, hsel]
    have hafter : [Token.byte a].foldl (Heard.after p) .address = .data := if_pos hsel
    have hdata := heard_data_after p (ts := reqs.map reqToken) (by
      simp only [List.mem_map]
      rintro t ⟨r, -, rfl⟩
      cases r <;> rfl)
    rw [← List.singleton_append, List.append_assoc, tokenEvents_append, haddr, hafter, tokenEvents_append, hdata,
      tokenEvents_reqs]
    rfl
  · have hdata := heard_data_after p (ts := bs.map .byte) (by simp [endsTrace])
    rw [tokenEvents_append, hdata, tokenEvents_bytes]
    rfl

/-! ### The Empty slot -/

/-- Bytes written with no capacity left are all Nacked (R134). -/
theorem execAll_rx_empty (bs : List Byte) {s : State} (hp : s.eng.phase ≠ .idle) (hd : s.eng.dir = .write)
    (hr : s.eng.rem = 0) :
    ∃ t, execAll (bs.map fun b => .evDataRx b false) s = some t ∧
      t.log = s.log ++ List.replicate bs.length (.ack .nack) ∧ t.ee = s.ee ∧ t.adc = s.adc ∧ t.gpi = s.gpi ∧
      t.sram = s.sram := by
  induction bs generalizing s with
  | nil => exact ⟨s, rfl, (List.append_nil _).symm, rfl, rfl, rfl, rfl⟩
  | cons b bs ih =>
    have hx : exec (.evDataRx b false) s = .next ((openExchange s).emit (.ack .nack)) := by
      rw [exec_evDataRx, dataEvent_write hp hd, receiveByte_empty hr]
    obtain ⟨t, ht, hlog, hee, hadc, hgpi, hsram⟩ :=
      ih (s := (openExchange s).emit (.ack .nack)) (by simp [openExchange]) hd hr
    exact ⟨t, (execAll_cons hx _).trans ht, hlog.trans (List.append_assoc _ _ _), hee, hadc, hgpi, hsram⟩

/-- Bytes read from an Empty slot are all FILL (R125, R133). -/
theorem execAll_tx_empty (reqs : List Bool) {s : State} (hp : s.eng.phase ≠ .idle) (hd : s.eng.dir = .read)
    (hc : s.eng.cnt = 0) (hr : s.eng.rem = 0) (hn : s.deviceAt s.eng.slot = none) :
    ∃ t, execAll (reqs.map fun r => .evDataTx 0 r) s = some t ∧
      t.log = s.log ++ List.replicate reqs.length (.tx 0xFF) ∧ t.ee = s.ee ∧ t.adc = s.adc ∧ t.gpi = s.gpi ∧
      t.sram = s.sram := by
  induction reqs generalizing s with
  | nil => exact ⟨s, rfl, (List.append_nil _).symm, rfl, rfl, rfl, rfl⟩
  | cons r reqs ih =>
    have hx : exec (.evDataTx 0 r) s = .next (((openExchange s).install (.refuse .nack)).emit (.tx Config.fill)) := by
      rw [exec_evDataTx, dataEvent_read hp hd, sendByte_wanted (.inr hc), if_pos hr,
        refill_none (s := openExchange s) hn, shiftOut_empty rfl]
    obtain ⟨t, ht, hlog, hee, hadc, hgpi, hsram⟩ :=
      ih (s := ((openExchange s).install (.refuse .nack)).emit (.tx Config.fill)) (by simp [openExchange]) hd rfl rfl hn
    exact ⟨t, (execAll_cons hx _).trans ht, hlog.trans (List.append_assoc _ _ _), hee, hadc, hgpi, hsram⟩

/-- Settles O23: the address is Nacked with no capacity, and each byte keeps it so. -/
theorem emptySlotRefusesEveryByte : Obligations.EmptySlotRefusesEveryByte := by
  intro s slot bs reqs hn ha
  have hopen (dir : Dir) : exec (match dir with | .write => .evAddrW s.cfg.base slot | .read => .evAddrR s.cfg.base slot) s =
      .next (addressMatch slot dir s) := exec_evAddr ha dir
  have hmatch := addressMatch_unregistered hn
  constructor
  · obtain ⟨t, ht, hlog, hee, hadc, hgpi, hsram⟩ :=
      execAll_rx_empty bs (s := addressMatch slot .write s) (by rw [hmatch]; simp [drained]) (by rw [hmatch]; rfl)
        (by rw [hmatch]; rfl)
    rw [hmatch] at hlog hee hadc hgpi hsram
    exact ⟨t, (execAll_cons (hopen .write) _).trans ht, hlog.trans (List.append_assoc _ _ _), hee, hadc, hgpi, hsram⟩
  · obtain ⟨t, ht, hlog, hee, hadc, hgpi, hsram⟩ :=
      execAll_tx_empty reqs (s := addressMatch slot .read s) (by rw [hmatch]; simp [drained]) (by rw [hmatch]; rfl)
        (by rw [hmatch]; rfl) (by rw [hmatch]; rfl) (by rw [hmatch]; exact (restartStop_deviceAt s slot).trans hn)
    rw [hmatch] at hlog hee hadc hgpi hsram
    exact ⟨t, (execAll_cons (hopen .read) _).trans ht, hlog.trans (List.append_assoc _ _ _), hee, hadc, hgpi, hsram⟩

end Sys2Proof.Machine
end

section
/-! The write frames (spec/30_encoding.md R85 to R92): a frame is its address event and its data events, each with its
exact next state; the EEPROM's policy and arm (spec/43_eeprom.md) and the error causes (spec/60_exceptions.md) with
them. -/

namespace Sys2Proof.Machine

/-! ### A byte received in a live grant -/

/-- A byte that leaves capacity in the grant (R134). -/
theorem dataEvent_stored {s : State} {ph : EnginePhase} {slot : Slot} {cnt rem : Count} {w : Win} {rx : Byte} {m : Bool}
    (he : s.eng = ⟨ph, slot, .write, cnt, rem, some w⟩) (hp : ph ≠ .idle) (h0 : rem ≠ 0) (h1 : rem ≠ 1)
    (hroom : w.base + cnt.toNat < w.space.size s.cfg) :
    dataEvent rx m s =
      { s.storeByte w.space (w.base + cnt.toNat) rx with
        eng := ⟨.exchanging, slot, .write, cnt + 1, rem - 1, some w⟩
        wd := armedWatchdog s.cfg, log := s.log ++ [.ack .ack] } := by
  rw [dataEvent_write (by rw [he]; exact hp) (by rw [he]),
    receiveByte_due (w := w) (by rw [he]; exact h0) (by rw [he]) (by rw [he]; exact hroom),
    storeByte_openExchange_countByte, he]
  exact if_neg h1

/-- The byte that fills the grant, from what WriteBufferFull of the slot's device answers (R134). -/
theorem dataEvent_filled {s u : State} {ph : EnginePhase} {slot : Slot} {cnt : Count} {w : Win} {k : DeviceKind}
    {rx : Byte} {m : Bool} {a : Answer} (he : s.eng = ⟨ph, slot, .write, cnt, 1, some w⟩) (hp : ph ≠ .idle)
    (hroom : w.base + cnt.toNat < w.space.size s.cfg) (hk : s.deviceAt slot = some k)
    (ha : handler k ⟨.write, .boundary⟩ (cnt + 1)
      { s.storeByte w.space (w.base + cnt.toNat) rx with
        eng := ⟨.exchanging, slot, .write, cnt + 1, 0, some w⟩, wd := armedWatchdog s.cfg
        log := s.log ++ [.call slot ⟨.write, .boundary⟩ (cnt + 1)] } = (a, u)) :
    dataEvent rx m s =
      { u with
        eng := ⟨.exchanging, slot, .write, 0, a.cap, if a.cap = 0 then none else a.grant⟩
        log := u.log ++ [.ack a.ack] } := by
  let v : State :=
    { s.storeByte w.space (w.base + cnt.toNat) rx with
      eng := ⟨.exchanging, slot, .write, cnt + 1, 1 - 1, some w⟩, wd := armedWatchdog s.cfg, log := s.log }
  have hv : v.deviceAt v.eng.slot = some k := (storeByte_deviceAt _ _ _ s slot).trans hk
  have hcall : handler k ⟨.write, .boundary⟩ v.eng.cnt (v.emit (.call v.eng.slot ⟨.write, .boundary⟩ v.eng.cnt)) = (a, u) := ha
  have hfull := deliverFull_eq hv
  rw [hcall] at hfull
  have h0 : s.eng.rem ≠ 0 := by rw [he]; exact (by decide : (1 : Count) ≠ 0)
  rw [dataEvent_write (by rw [he]; exact hp) (by rw [he]),
    receiveByte_due (w := w) h0 (by rw [he]) (by rw [he]; exact hroom), storeByte_openExchange_countByte, he]
  exact (if_pos rfl).trans hfull

/-! ### The byte that completes an F-EE-W -/

/-- The state a complete F-EE-W is committed on: the bytes staged, the cursor set, the Call recorded (R187). -/
def eeDelivered (slot : Slot) (rx : Byte) (s : State) : State :=
  { s with
    eng := ⟨.exchanging, slot, .write, 3, 0, some ⟨.eeStage, 0, 3⟩⟩
    wd := armedWatchdog s.cfg
    ee := { s.ee with stage := s.ee.stage.setIfInBounds 2 rx, cursor := s.ee.stagedAddr }
    log := s.log ++ [.call slot ⟨.write, .boundary⟩ 3] }

/-- WriteBufferFull writes the staged byte to the staged address (R187). -/
theorem handler_eeWriteBufferFull {s : State} {a : U16} {d : Byte} (ha : s.ee.stagedAddr = a) (hd : s.ee.stage[2] = d)
    (n : Count) :
    handler .eeprom ⟨.write, .boundary⟩ n s =
      (.refuse (eeCommit a d { s with ee := { s.ee with cursor := a } }).1,
        (eeCommit a d { s with ee := { s.ee with cursor := a } }).2) := by
  subst ha hd
  rfl

/-- All that the third byte of an F-EE-W does: the write of the staged address, and its acknowledge (R134, R187). -/
theorem dataEvent_completes_eeWrite {s : State} {ph : EnginePhase} {slot : Slot} {rx : Byte} {m : Bool}
    (he : s.eng = ⟨ph, slot, .write, 2, 1, some ⟨.eeStage, 0, 3⟩⟩) (hp : ph ≠ .idle)
    (hk : s.deviceAt slot = some .eeprom) :
    let r := eeCommit s.ee.stagedAddr rx (eeDelivered slot rx s)
    dataEvent rx m s = { r.2 with eng := drained .exchanging slot .write, log := r.2.log ++ [.ack r.1] } :=
  dataEvent_filled he hp (Nat.lt_succ_self 2) hk
    (handler_eeWriteBufferFull (by simp [State.storeByte, Eeprom.stagedAddr]) (by simp [State.storeByte]) _)

/-- The write of a complete F-EE-W is Nacked exactly where it is a store write the policy rejects (R187, R283). -/
theorem eeCommit_ack (a : U16) (d : Byte) (s : State) :
    (eeCommit a d s).1 = if s.cfg.isSpecial a = false ∧ eeAccepts a d s = false then .nack else .ack := by
  cases hs : s.cfg.isSpecial a with
  | false =>
    rw [eeCommit_ordinary hs]
    cases hacc : eeAccepts a d s with
    | false => rw [eeWrite_rejected hacc]; rfl
    | true => rw [eeWrite_accepted hacc]; rfl
  | true =>
    have hspecial : a = s.cfg.weHi ∨ a = s.cfg.weLo ∨ a = s.cfg.weData ∨ a = s.cfg.eeCtrl := by
      simpa [Params.isSpecial, or_assoc] using hs
    rw [if_neg fun h => Bool.false_ne_true h.1.symm]
    unfold eeCommit
    split_ifs <;> first | rfl | simp_all

/-- The policy reads the parameters and the arm only (R184). -/
theorem eeAccepts_congr {s t : State} (hc : t.cfg = s.cfg) (ha : t.ee.arm = s.ee.arm) (a : U16) (d : Byte) :
    eeAccepts a d t = eeAccepts a d s := by
  unfold eeAccepts
  rw [hc, ha]

/-! ### Error causes -/

theorem eventError_addr_iff (a : Byte) (s : State) :
    eventError (.addr a) s = some .unregistered ↔
      s.cfg.selects (windowOf a) (slotOf a) = true ∧ s.deviceAt (slotOf a) = none := by
  simp [eventError]

theorem eventError_error_iff (s : State) : eventError .error s = some .protocol ↔ s.eng.phase ≠ .idle := by
  simp only [eventError]
  split <;> simp_all

/-- An address event of an Empty slot (R284). -/
theorem unregistered_surfaces {s : State} {a : Byte} (hsel : s.cfg.selects (windowOf a) (slotOf a) = true)
    (hn : s.deviceAt (slotOf a) = none) :
    ∃ rs, (busEvent (.addr a) s).log = s.log ++ rs ∧ rs.getLast? = some (.ack .nack) ∧
      (busEvent (.addr a) s).eng = drained .addressed (slotOf a) (dirOf a) := by
  obtain ⟨rs, hlog, -⟩ := restartStop_records s
  have hevent : busEvent (.addr a) s = addressMatch (slotOf a) (dirOf a) s := if_pos hsel
  refine ⟨rs ++ [.ack .nack], ?_, List.getLast?_concat, ?_⟩
  · rw [hevent, addressMatch_unregistered hn, hlog, List.append_assoc]
  · rw [hevent, addressMatch_unregistered hn]

/-- An Error ends the transaction with the device's Error phase, of a registered slot (R281). -/
theorem protocol_surfaces (s : State) :
    ∃ rs, (endTransaction .error s).log = s.log ++ rs ∧ (endTransaction .error s).eng.phase = .idle ∧
      callsOf rs =
        if s.eng.phase ≠ .idle ∧ s.deviceAt s.eng.slot ≠ none then [(s.eng.slot, ⟨s.eng.dir, .error⟩, s.eng.cnt)]
        else [] := by
  by_cases hp : s.eng.phase = .idle
  · rw [endTransaction_idle hp]
    exact ⟨[], (List.append_nil _).symm, hp, by rw [if_neg fun h => h.1 hp]; rfl⟩
  · cases hk : s.deviceAt s.eng.slot with
    | none =>
      rw [endTransaction_none hp hk]
      exact ⟨[], (List.append_nil _).symm, rfl, by rw [if_neg fun h => h.2 rfl]; rfl⟩
    | some k =>
      obtain ⟨rs, hlog, hdev, -⟩ := calledState_log k s.eng.slot ⟨s.eng.dir, .error⟩ s.eng.cnt s
      obtain ⟨hcalls, -⟩ := readings_of_device hdev
      rw [endTransaction_some hp hk]
      refine ⟨_, hlog, rfl, ?_⟩
      rw [if_pos ⟨hp, Option.some_ne_none k⟩]
      exact congrArg (_ :: ·) hcalls

/-- The byte that completes an F-EE-W: the policy's answer is its acknowledge, and a rejected byte reaches no store
(R283). -/
theorem policy_surfaces {s : State} {ph : EnginePhase} {slot : Slot} (rx : Byte) (m : Bool)
    (he : s.eng = ⟨ph, slot, .write, 2, 1, some ⟨.eeStage, 0, 3⟩⟩) (hp : ph ≠ .idle)
    (hk : s.deviceAt slot = some .eeprom) :
    ∃ rs, (dataEvent rx m s).log = s.log ++ rs ∧
      acksOf rs =
        [if s.cfg.isSpecial s.ee.stagedAddr = false ∧ eeAccepts s.ee.stagedAddr rx s = false then .nack else .ack] ∧
      (s.cfg.isSpecial s.ee.stagedAddr = false ∧ eeAccepts s.ee.stagedAddr rx s = false →
        persistWrites rs = [] ∧ (dataEvent rx m s).ee.arm = s.cfg.armClear ∧
          (dataEvent rx m s).ee.cursor = s.ee.stagedAddr ∧ (dataEvent rx m s).eng = drained .exchanging slot .write) := by
  have hacc : eeAccepts s.ee.stagedAddr rx (eeDelivered slot rx s) = eeAccepts s.ee.stagedAddr rx s :=
    eeAccepts_congr rfl rfl _ _
  have hack := eeCommit_ack s.ee.stagedAddr rx (eeDelivered slot rx s)
  rw [hacc] at hack
  rw [dataEvent_completes_eeWrite he hp hk]
  by_cases hrej : s.cfg.isSpecial s.ee.stagedAddr = false ∧ eeAccepts s.ee.stagedAddr rx s = false
  · have hcommit : eeCommit s.ee.stagedAddr rx (eeDelivered slot rx s) = _ :=
      (eeCommit_ordinary (s := eeDelivered slot rx s) hrej.1 rx).trans (eeWrite_rejected (hacc.trans hrej.2))
    rw [hcommit, if_pos hrej]
    exact ⟨[.call slot ⟨.write, .boundary⟩ 3, .ack .nack], List.append_assoc _ _ _, rfl, fun _ => ⟨rfl, rfl, rfl, rfl⟩⟩
  · obtain ⟨rs, hlog, hdev, -⟩ := eeCommit_deviceLog s.ee.stagedAddr rx (eeDelivered slot rx s)
    obtain ⟨-, hacks, -⟩ := readings_of_device hdev
    refine ⟨.call slot ⟨.write, .boundary⟩ 3 :: rs ++ [.ack (eeCommit s.ee.stagedAddr rx (eeDelivered slot rx s)).1], ?_,
      ?_, fun h => absurd h hrej⟩
    · refine (congrArg (· ++ [_]) hlog).trans ?_
      simp only [eeDelivered, List.append_assoc, List.cons_append, List.nil_append]
    · rw [acksOf_append, hack]
      exact congrArg (· ++ _) hacks

/-- Settles O60: each cause by the lemma of what it surfaces as. -/
theorem errorCausesSurfaceAsStated : Obligations.ErrorCausesSurfaceAsStated := by
  refine ⟨fun s a => ⟨eventError_addr_iff a s, fun hcause => ?_⟩, fun s => ⟨eventError_error_iff s, ?_⟩,
    fun s rx m hi hp hd hg hr => ?_, fun s hf => ?_⟩
  · obtain ⟨hsel, hn⟩ := (eventError_addr_iff a s).mp hcause
    obtain ⟨rs, hlog, hlast, heng⟩ := unregistered_surfaces hsel hn
    exact ⟨_, rs, exec_decodeEvent s.ctx (.addr a) s, hlog, hlast, heng⟩
  · obtain ⟨rs, hlog, hidle, hcalls⟩ := protocol_surfaces s
    refine ⟨_, rs, rfl, hlog, hidle, ?_⟩
    simp only [hcalls, eventError_error_iff]
  · obtain ⟨-, hsum, hdev⟩ := grantInv_some hi hg
    have hc : s.eng.cnt = 2 := by
      rw [hr] at hsum
      exact BitVec.eq_of_toNat_eq (Nat.add_right_cancel (m := 1) hsum)
    have he : s.eng = ⟨s.eng.phase, s.eng.slot, .write, 2, 1, some ⟨.eeStage, 0, 3⟩⟩ := by
      rw [← hd, ← hc, ← hr, ← hg]
    have hdev' : s.deviceAt s.eng.slot = some .eeprom := hdev
    have hcause : eventError (.data rx m) s = some .policy ↔
        s.cfg.isSpecial s.ee.stagedAddr = false ∧ eeAccepts s.ee.stagedAddr rx s = false := by
      simp [eventError, hp, hd, hr, hdev']
    obtain ⟨rs, hlog, hacks, hrejected⟩ := policy_surfaces rx m he hp hdev
    refine ⟨hcause, _, rs, exec_evDataRx rx m s, hlog, ?_, fun h => hrejected (hcause.mp h)⟩
    simp only [hacks, hcause]
  · obtain ⟨t, rs, ht, hlog, hcalls, hrestarts, -⟩ := tick_records hf
    refine ⟨t, rs, ht, hlog, hcalls, ?_⟩
    have hcause : tickError s = some .timeout ↔ s.wd.enabled = true ∧ s.wd.count - 1 = 0 := by simp [tickError]
    simp only [hrestarts, hcause]

end Sys2Proof.Machine
end

section
/-! The EEPROM's write frames (spec/30_encoding.md R85 to R87): the address byte, the bytes staged, and what the last of
them commits; with them the protected-write law and the rejection law (spec/43_eeprom.md R194, R195). -/

namespace Sys2Proof.Machine

/-! ### A frame is its address match, then its data events -/

theorem busEvent_addrByte {slot : Slot} {s : State} (ha : s.cfg.answers slot = true) (dir : Dir) :
    busEvent (.addr (addrByte s.cfg.base slot dir)) s = addressMatch slot dir s := by
  have hevent : busEvent (.addr (addrByte s.cfg.base slot dir)) s = addressEvent s.cfg.base slot dir s := by
    simp [busEvent]
  rw [hevent, addressEvent_base ha]

@[simp] theorem addressMatch_fault (slot : Slot) (dir : Dir) (s : State) : (addressMatch slot dir s).fault = s.fault :=
  (changes_addressMatch slot dir s).kept.fault

@[simp] theorem addressMatch_cfg (slot : Slot) (dir : Dir) (s : State) : (addressMatch slot dir s).cfg = s.cfg :=
  (changes_addressMatch slot dir s).kept.cfg

@[simp] theorem dataEvent_fault (rx : Byte) (m : Bool) (s : State) : (dataEvent rx m s).fault = s.fault :=
  (changes_dataEvent rx m s).kept.fault

theorem addressMatch_deviceAt (slot q : Slot) (dir : Dir) (s : State) :
    (addressMatch slot dir s).deviceAt q = s.deviceAt q := by
  simp [State.deviceAt, (changes_addressMatch slot dir s).kept.reg]

/-- A frame to an answered slot: the address match, then the events of its other tokens (R11). -/
theorem runFrame_eq {slot : Slot} {s : State} (hf : s.fault = none) (ha : s.cfg.answers slot = true) (dir : Dir)
    (ts : List Token) :
    runFrame slot dir ts s = busEvents (tokenEvents s.cfg .data ts) (addressMatch slot dir s) := by
  rw [runFrame_answered ha, busEvents_cons hf, busEvent_addrByte ha]

/-- The events of a frame of written bytes. -/
theorem runFrame_bytes {slot : Slot} {s : State} (hf : s.fault = none) (ha : s.cfg.answers slot = true) (dir : Dir)
    (bs : List Byte) :
    runFrame slot dir (bs.map .byte) s = busEvents (bs.map fun b => .data b false) (addressMatch slot dir s) := by
  rw [runFrame_eq hf ha, tokenEvents_bytes]

theorem busEvents_nil (s : State) : busEvents [] s = s := rfl

/-- An address match on a registered slot, from what the device's Start answers (R131). -/
theorem addressMatch_answered {slot : Slot} {k : DeviceKind} {dir : Dir} {s u : State} {a : Answer}
    (hk : s.deviceAt slot = some k)
    (hstart : handler k ⟨dir, .start⟩ 0
      { restartStop s with
        eng := drained .addressed slot dir, wd := armedWatchdog s.cfg
        log := (restartStop s).log ++ [.call slot ⟨dir, .start⟩ 0] } = (a, u)) :
    addressMatch slot dir s =
      { u with
        eng := ⟨.addressed, slot, dir, 0, a.cap, if a.cap = 0 then none else a.grant⟩, log := u.log ++ [.ack .ack] } := by
  rw [addressMatch_registered hk, hstart]

/-! ### The bytes of an F-EE-W -/

/-- The address byte of an F-EE-W: the staging window of 3 bytes (R186). -/
theorem addressMatch_eeWrite {slot : Slot} {s : State} (hk : s.deviceAt slot = some .eeprom) :
    addressMatch slot .write s =
      { restartStop s with
        eng := ⟨.addressed, slot, .write, 0, 3, some ⟨.eeStage, 0, 3⟩⟩
        wd := armedWatchdog s.cfg
        log := (restartStop s).log ++ [.call slot ⟨.write, .start⟩ 0] ++ [.ack .ack] } :=
  addressMatch_answered hk rfl

/-- The state after an EEPROM write transaction's two address bytes, from the state before its address byte: they wait
in the staging window (R186). -/
def eeStaged (slot : Slot) (hi lo : Byte) (r : State) : State :=
  { r with
    eng := ⟨.exchanging, slot, .write, 2, 1, some ⟨.eeStage, 0, 3⟩⟩
    wd := armedWatchdog r.cfg
    ee := { r.ee with stage := #v[hi, lo, r.ee.stage[2]] }
    log := r.log ++ [.call slot ⟨.write, .start⟩ 0, .ack .ack, .ack .ack, .ack .ack] }

theorem stage_two_bytes (v : Vector Byte 3) (hi lo : Byte) :
    (v.setIfInBounds 0 hi).setIfInBounds 1 lo = #v[hi, lo, v[2]] := by
  ext i hlt
  interval_cases i <;> simp

theorem dataEvents_eeStaged {slot : Slot} {s : State} (hk : s.deviceAt slot = some .eeprom) (hi lo : Byte) :
    dataEvent lo false (dataEvent hi false (addressMatch slot .write s)) = eeStaged slot hi lo (restartStop s) := by
  have hfirst : dataEvent hi false (addressMatch slot .write s) = _ :=
    (congrArg _ (addressMatch_eeWrite hk)).trans
      (dataEvent_stored (w := ⟨.eeStage, 0, 3⟩) rfl (by decide) (by decide) (by decide) (Nat.zero_lt_succ 2))
  rw [hfirst]
  refine (dataEvent_stored (w := ⟨.eeStage, 0, 3⟩) (cnt := 0 + 1) (rem := 3 - 1) rfl (by decide) (by decide) (by decide)
    (Nat.succ_lt_succ (Nat.zero_lt_succ 1))).trans ?_
  simp [eeStaged, State.storeByte, State.setEe, stage_two_bytes]

/-- The state an F-EE-W is committed on: its three bytes staged, the cursor at its address, WriteBufferFull called. -/
def eeReceived (slot : Slot) (hi lo d : Byte) (r : State) : State :=
  { r with
    eng := ⟨.exchanging, slot, .write, 3, 0, some ⟨.eeStage, 0, 3⟩⟩
    wd := armedWatchdog r.cfg
    ee := { r.ee with stage := #v[hi, lo, d], cursor := cat16 hi lo }
    log :=
      r.log ++ [.call slot ⟨.write, .start⟩ 0, .ack .ack, .ack .ack, .ack .ack, .call slot ⟨.write, .boundary⟩ 3] }

theorem eeDelivered_eeStaged (slot : Slot) (hi lo d : Byte) (r : State) :
    eeDelivered slot d (eeStaged slot hi lo r) = eeReceived slot hi lo d r := by
  simp [eeDelivered, eeStaged, eeReceived, Eeprom.stagedAddr]

/-- All that an F-EE-W frame does (R85, R187): the write of its address, and the acknowledge of its data byte. -/
theorem runFrame_eeWrite {slot : Slot} {s : State} (hf : s.fault = none) (hk : s.deviceAt slot = some .eeprom)
    (ha : s.cfg.answers slot = true) (hi lo d : Byte) :
    let r := eeCommit (cat16 hi lo) d (eeReceived slot hi lo d (restartStop s))
    runFrame slot .write [.byte hi, .byte lo, .byte d] s =
      { r.2 with eng := drained .exchanging slot .write, log := r.2.log ++ [.ack r.1] } := by
  have hdev : (eeStaged slot hi lo (restartStop s)).deviceAt slot = some .eeprom :=
    (restartStop_deviceAt s slot).trans hk
  have hlast := dataEvent_completes_eeWrite (rx := d) (m := false) rfl (by decide : EnginePhase.exchanging ≠ .idle) hdev
  rw [eeDelivered_eeStaged] at hlast
  have hevents : runFrame slot .write [.byte hi, .byte lo, .byte d] s =
      dataEvent d false (dataEvent lo false (dataEvent hi false (addressMatch slot .write s))) := by
    refine (runFrame_bytes hf ha .write [hi, lo, d]).trans ?_
    simp [busEvents_cons, busEvent, hf, busEvents_nil]
  intro r
  exact (hevents.trans (congrArg (dataEvent d false) (dataEvents_eeStaged hk hi lo))).trans hlast

/-! ### What reaches the arm -/

/-- Every call but EE.WriteBufferFull keeps the arm (R196). -/
theorem calledState_arm (k : DeviceKind) (slot : Slot) {ph : Phase} (h : k ≠ .eeprom ∨ ph ≠ ⟨.write, .boundary⟩)
    (n : Count) (s : State) : (calledState k slot ph n s).ee.arm = s.ee.arm := by
  cases k with
  | adc | gpi | sram => exact congrArg Eeprom.arm ((called_frame _ slot ph n s).ee nofun)
  | eeprom =>
    obtain ⟨_ | _, _ | _ | _ | _⟩ := ph
    case write.boundary => simp at h
    case write.stop =>
      simp only [calledState, handler, eeWriteStop]
      split <;> rfl
    case read.start =>
      simp only [calledState, handler, eeReadStart, fillWindow_eq]
      rfl
    case read.boundary =>
      simp only [calledState, handler, eeReadBufferEmpty, fillWindow_eq]
      rfl
    all_goals rfl

/-- The Stop a restart owes keeps the arm (R188, R192, R196). -/
theorem restartStop_arm (s : State) : (restartStop s).ee.arm = s.ee.arm := by
  by_cases howed : s.eng.phase = .idle ∨ s.eng.cnt = 0 ∨ s.deviceAt s.eng.slot = none
  · rw [restartStop_none howed]
  · simp only [not_or] at howed
    obtain ⟨hp, hc, hk⟩ := howed
    obtain ⟨k, hk⟩ := Option.ne_none_iff_exists'.mp hk
    rw [restartStop_some hp hc hk]
    exact calledState_arm k _ (.inr (by simp)) _ s

/-! ### Store writes and register writes -/

/-- The policy of a store write's last byte reads the arm as it stood before the frame (R184). -/
theorem eeAccepts_eeReceived (slot : Slot) (hi lo d : Byte) (a : U16) (s : State) :
    eeAccepts a d (eeReceived slot hi lo d (restartStop s)) = eeAccepts a d s :=
  eeAccepts_congr (restartStop_cfg s) (restartStop_arm s) a d

/-- Settles O33: an ordinary address is a store write, and the policy reads the arm as it stood. -/
theorem eeWriteByteFrame : Obligations.EeWriteByteFrame := by
  intro s slot hi lo d hf hk ha hord r head
  have hord' : (eeReceived slot hi lo d r).cfg.isSpecial (cat16 hi lo) = false :=
    (congrArg (Params.isSpecial · (hi ++ lo)) (restartStop_cfg s)).trans hord
  have hpolicy : eeAccepts (cat16 hi lo) d (eeReceived slot hi lo d r) = eeAccepts (hi ++ lo) d s :=
    eeAccepts_eeReceived slot hi lo d (cat16 hi lo) s
  refine congrArg _ ((runFrame_eeWrite hf hk ha hi lo d).trans ?_)
  rw [eeCommit_ordinary hord']
  cases hacc : eeAccepts (hi ++ lo) d s with
  | true =>
    rw [eeWrite_accepted (hpolicy.trans hacc)]
    simp [eeReceived, head, r, cat16]
  | false =>
    rw [eeWrite_rejected (hpolicy.trans hacc)]
    simp [eeReceived, head, r, cat16]

/-- What each special address is written to (R87, R187). -/
theorem eeCommit_special {s : State} {p : Params} (hp : s.cfg = p) (h : p.specialsApart = true) (d : Byte) :
    eeCommit p.weHi d s = (.ack, { s with ee := { s.ee with arm := { s.ee.arm with hi := some d } } }) ∧
    eeCommit p.weLo d s = (.ack, { s with ee := { s.ee with arm := { s.ee.arm with lo := some d } } }) ∧
    eeCommit p.weData d s = (.ack, { s with ee := { s.ee with arm := { s.ee.arm with data := some d } } }) ∧
    eeCommit p.eeCtrl d s = (.ack, { s with log := s.log ++ [.superviseCtrl d] }) := by
  subst hp
  obtain ⟨h1, h2, h3, h4, h5, h6⟩ := (specialsApart_iff s.cfg).mp h
  refine ⟨if_pos rfl, ?_, ?_, ?_⟩
  · rw [eeCommit, if_neg h1.symm, if_pos rfl]
    rfl
  · rw [eeCommit, if_neg h2.symm, if_neg h3.symm, if_pos rfl]
    rfl
  · rw [eeCommit, if_neg h4, if_neg h5, if_neg h6, if_pos rfl]
    rfl

/-- Settles O34: each special address by its own branch of the commit. -/
theorem eeRegisterFrames : Obligations.EeRegisterFrames := by
  intro s slot d hf hk ha hsp r done
  have hcfg : r.cfg = s.cfg := restartStop_cfg s
  have hframe (a : U16) := runFrame_eeWrite hf hk ha (hi8 a) (lo8 a) d
  simp only [cat16_hi8_lo8] at hframe
  have hcommit (a : U16) := eeCommit_special (s := eeReceived slot (hi8 a) (lo8 a) d r) hcfg hsp d
  obtain ⟨hhi, -⟩ := hcommit s.cfg.weHi
  obtain ⟨-, hlo, -⟩ := hcommit s.cfg.weLo
  obtain ⟨-, -, hdata, -⟩ := hcommit s.cfg.weData
  obtain ⟨-, -, -, hctrl⟩ := hcommit s.cfg.eeCtrl
  refine ⟨congrArg _ ((hframe _).trans ?_), congrArg _ ((hframe _).trans ?_), congrArg _ ((hframe _).trans ?_),
    congrArg _ ((hframe _).trans ?_)⟩
  · rw [hhi]
    simp only [eeReceived, done, cat16_hi8_lo8, hcfg, List.append_assoc, List.cons_append, List.nil_append]
    rfl
  · rw [hlo]
    simp only [eeReceived, done, cat16_hi8_lo8, hcfg, List.append_assoc, List.cons_append, List.nil_append]
    rfl
  · rw [hdata]
    simp only [eeReceived, done, cat16_hi8_lo8, hcfg, List.append_assoc, List.cons_append, List.nil_append]
    rfl
  · rw [hctrl]
    simp only [eeReceived, done, cat16_hi8_lo8, hcfg, List.append_assoc, List.cons_append, List.nil_append]
    rfl

/-- Settles O35: the two bytes staged, and the Stop that the frame or the next address byte delivers. -/
theorem eeSetCursorFrame : Obligations.EeSetCursorFrame := by
  intro s slot hi lo hf hk ha r staged head
  have hdev : (eeStaged slot hi lo r).deviceAt slot = some .eeprom := (restartStop_deviceAt s slot).trans hk
  have hbytes : ∀ fin, exec (.eeSetCursor slot hi lo fin) s =
      .next (busEvents (tokenEvents s.cfg .data [endToken fin]) (eeStaged slot hi lo r)) := by
    intro fin
    refine congrArg _ ((runFrame_eq hf ha .write _).trans ?_)
    rw [← dataEvents_eeStaged hk]
    simp [tokenEvents, Heard.event, Heard.after, Token.event, busEvents_cons, busEvent, hf]
  refine ⟨(hbytes .stop).trans (congrArg _ ?_), eeStaged slot hi lo r, hbytes .restart, ?_, ?_⟩
  · have hstop := endTransaction_some (s := eeStaged slot hi lo r) (by simp [eeStaged]) hdev .stop
    refine Eq.trans ?_ (hstop.trans ?_)
    · simp [tokenEvents, Heard.event, Token.event, endToken, busEvents_cons, busEvent, busEvents_nil, eeStaged, r, hf]
    · simp [eeStaged, staged, head, r, calledState, handler, eeWriteStop, State.emit, State.setEe, Eeprom.stagedAddr,
        cat16]
  · simp [eeStaged, staged, head, r]
  · rw [restartStop_some (k := .eeprom) (by simp [eeStaged]) (by simp [eeStaged]) hdev]
    rfl

end Sys2Proof.Machine
end

section
/-! The laws of the EEPROM's write policy over whole frames (spec/43_eeprom.md R194, R195). -/

namespace Sys2Proof.Machine

theorem execAll_append {is : List Instr} {s t : State} (h : execAll is s = some t) (js : List Instr) :
    execAll (is ++ js) s = execAll js t := by
  induction is generalizing s with
  | nil =>
    cases h
    rfl
  | cons i is ih =>
    obtain ⟨u, hu⟩ := exec_next i s
    rw [execAll_cons hu] at h
    exact (execAll_cons hu _).trans (ih h)

/-! ### Records that write nothing to the store -/

/-- Nothing reaches the persistent store between the two states. -/
def NoStore (s t : State) : Prop := ∃ rs, t.log = s.log ++ rs ∧ persistWrites rs = []

theorem NoStore.of_log {s t : State} (h : t.log = s.log) : NoStore s t := ⟨[], by rw [h, List.append_nil], rfl⟩

theorem NoStore.trans {s t u : State} (h : NoStore s t) (g : NoStore t u) : NoStore s u := by
  obtain ⟨rs, hlog, hnone⟩ := h
  obtain ⟨qs, glog, gnone⟩ := g
  exact ⟨rs ++ qs, by rw [glog, hlog, List.append_assoc], by rw [persistWrites_append, hnone, gnone]; rfl⟩

theorem putGpi_noStore (g : Gpi) (s : State) : NoStore s (s.putGpi g) := by
  rw [putGpi_eq]
  refine ⟨irqRecords s.gpi.irq g.irq, rfl, ?_⟩
  unfold irqRecords
  split <;> rfl

theorem gpiFinish_noStore (s : State) : NoStore s (gpiFinish s) :=
  ((putGpi_noStore _ s).trans (.of_log (t := State.noteRead .pinRead _) rfl)).trans (putGpi_noStore _ _)

/-- The Stop a restart owes writes nothing to the store (R188, R192). -/
theorem restartStop_noStore (s : State) : NoStore s (restartStop s) := by
  by_cases howed : s.eng.phase = .idle ∨ s.eng.cnt = 0 ∨ s.deviceAt s.eng.slot = none
  · rw [restartStop_none howed]
    exact .of_log rfl
  · simp only [not_or] at howed
    obtain ⟨hp, hc, hk⟩ := howed
    obtain ⟨k, hk⟩ := Option.ne_none_iff_exists'.mp hk
    rw [restartStop_some hp hc hk]
    have hcall : NoStore s (s.emit (.call s.eng.slot ⟨s.eng.dir, .stop⟩ s.eng.cnt)) := ⟨[_], rfl, rfl⟩
    refine hcall.trans ?_
    unfold calledState
    cases k with
    | eeprom =>
      cases s.eng.dir with
      | write =>
        simp only [handler, eeWriteStop]
        split <;> exact .of_log rfl
      | read => exact .of_log rfl
    | adc => exact .of_log (handler_adc_log _ _ _)
    | gpi => cases s.eng.dir <;> exact gpiFinish_noStore _
    | sram => exact .of_log (handler_sram_log _ _ _)

/-! ### Arm writes and store writes, each one whole frame -/

/-- A stop after a complete F-EE-W: nothing is counted, so EE.WriteStop changes nothing (R188). -/
theorem exec_evStop_drained {s : State} {slot : Slot} (he : s.eng = drained .exchanging slot .write)
    (hk : s.deviceAt slot = some .eeprom) :
    exec .evStop s =
      .next
        { s with
          eng := drained .idle slot .write, wd := offWatchdog, log := s.log ++ [.call slot ⟨.write, .stop⟩ 0] } := by
  have hend := endTransaction_some (s := s) (k := .eeprom) (by simp [he, drained]) (by rw [he]; exact hk) .stop
  rw [he] at hend
  exact congrArg _ hend

/-- The records of an acknowledged F-EE-W that is no store write (R85, R187). -/
def frameRecords (slot : Slot) : List Record :=
  [.call slot ⟨.write, .start⟩ 0, .ack .ack, .ack .ack, .ack .ack, .call slot ⟨.write, .boundary⟩ 3, .ack .ack]

/-- The EEPROM answers at the slot, its special addresses apart, and no fault is recorded. -/
structure EeReady (slot : Slot) (s : State) : Prop where
  fault : s.fault = none
  device : s.deviceAt slot = some .eeprom
  answers : s.cfg.answers slot = true
  apart : s.cfg.specialsApart = true

theorem EeReady.kept {slot : Slot} {s t : State} (h : EeReady slot s) (hk : Kept s t) : EeReady slot t where
  fault := hk.fault.trans h.fault
  device := (congrArg (·[slot.toNat]) hk.reg).trans h.device
  answers := (congrArg (Params.answers · slot) hk.cfg).trans h.answers
  apart := (congrArg Params.specialsApart hk.cfg).trans h.apart

/-- An arm frame and its stop load one arm register, and nothing reaches the store (R87, R187). -/
theorem armFrame_stopped {s : State} {slot : Slot} {d : Byte} {i : Instr} {m : Arm} (hs : EeReady slot s)
    (h : i = .eeArmHi slot d ∧ m = { s.ee.arm with hi := some d } ∨
      i = .eeArmLo slot d ∧ m = { s.ee.arm with lo := some d } ∨
      i = .eeArmData slot d ∧ m = { s.ee.arm with data := some d }) :
    ∃ t, execAll [i, .evStop] s = some t ∧ Kept s t ∧ t.ee.arm = m ∧ NoStore s t := by
  obtain ⟨hhi, hlo, hdata, -⟩ := eeRegisterFrames s slot d hs.fault hs.device hs.answers hs.apart
  rw [restartStop_arm] at hhi hlo hdata
  obtain ⟨u, hu, heng, harm, hstore⟩ : ∃ u, exec i s = .next u ∧ u.eng = drained .exchanging slot .write ∧
      u.ee.arm = m ∧ NoStore (restartStop s) u := by
    obtain ⟨rfl, rfl⟩ | ⟨rfl, rfl⟩ | ⟨rfl, rfl⟩ := h
    · exact ⟨_, hhi, rfl, rfl, frameRecords slot, by simp [frameRecords], rfl⟩
    · exact ⟨_, hlo, rfl, rfl, frameRecords slot, by simp [frameRecords], rfl⟩
    · exact ⟨_, hdata, rfl, rfl, frameRecords slot, by simp [frameRecords], rfl⟩
  have hkept := exec_kept hu
  have hstop := exec_evStop_drained heng (hs.kept hkept).device
  refine ⟨_, (execAll_cons hu _).trans (execAll_cons hstop _), hkept.trans (exec_kept hstop), harm, ?_⟩
  exact ((restartStop_noStore s).trans hstore).trans ⟨[_], rfl, rfl⟩

/-- What a store write's frame leaves in the store, on the bus and in the arm (R85, R184). -/
theorem eeWriteByte_policy {s : State} {slot : Slot} {hi lo d : Byte} (hf : s.fault = none)
    (hk : s.deviceAt slot = some .eeprom) (ha : s.cfg.answers slot = true) (hord : s.cfg.isSpecial (hi ++ lo) = false) :
    ∃ t rs, exec (.eeWriteByte slot hi lo d) s = .next t ∧ t.log = s.log ++ rs ∧
      persistWrites rs = (if eeAccepts (hi ++ lo) d s then [(eeStoreIndex s.cfg (hi ++ lo), d)] else []) ∧
      (acksOf rs).getLast? = some (if eeAccepts (hi ++ lo) d s then .ack else .nack) ∧ t.ee.arm = s.cfg.armClear := by
  have hframe := eeWriteByteFrame s slot hi lo d hf hk ha hord
  obtain ⟨qs, hlog, hnone⟩ := restartStop_noStore s
  dsimp only at hframe
  rw [hlog] at hframe
  cases hacc : eeAccepts (hi ++ lo) d s with
  | true =>
    rw [hacc] at hframe
    refine ⟨_, _, hframe, (List.append_assoc _ _ _).trans (List.append_assoc _ _ _), ?_, ?_, rfl⟩
    · rw [persistWrites_append, hnone]
      rfl
    · rw [acksOf_append, List.getLast?_append]
      rfl
  | false =>
    rw [hacc] at hframe
    refine ⟨_, _, hframe, (List.append_assoc _ _ _).trans (List.append_assoc _ _ _), ?_, ?_, rfl⟩
    · rw [persistWrites_append, hnone]
      rfl
    · rw [acksOf_append, List.getLast?_append]
      rfl

/-- The policy where the address lies in a PROTECTED region (R184). -/
theorem eeAccepts_protected {s : State} {a : U16} {r : Region} (hr : regionAt s.cfg a = some r)
    (hk : r.kind = .persist) (hacc : r.access = .protect) (d : Byte) :
    eeAccepts a d s = true ↔ s.ee.arm = ⟨some (hi8 a), some (lo8 a), some d⟩ := by
  rw [eeAccepts_iff]
  constructor
  · rintro ⟨q, hq, -, hopen | ⟨-, harm⟩⟩
    · cases hr.symm.trans hq
      cases hacc.symm.trans hopen
    · exact harm
  · exact fun harm => ⟨r, hr, hk, .inr ⟨hacc, harm⟩⟩

/-- A PROTECTED write that the arm does not match (R184). -/
theorem eeAccepts_unarmed {s : State} {hi lo d : Byte} {r : Region} (hr : regionAt s.cfg (hi ++ lo) = some r)
    (hacc : r.access = .protect) (harm : s.ee.arm ≠ ⟨some hi, some lo, some d⟩) : eeAccepts (hi ++ lo) d s = false := by
  refine eeAccepts_eq_false fun q hq => .inr (.inr ?_)
  cases hr.symm.trans hq
  exact ⟨hacc, by rwa [← cat16, hi8_cat16, lo8_cat16]⟩

/-- Settles O39: the arm does not match at the first write, and is cleared, so it cannot match, at the second. -/
theorem rejectedWriteStaysRejected : Obligations.RejectedWriteStaysRejected := by
  intro s slot hi lo d r hf hk ha hclear hord hr hacc harm
  have hrej : eeAccepts (hi ++ lo) d s = false := eeAccepts_unarmed hr hacc harm
  obtain ⟨t, rs, ht, hlog, hnone, -, tarm⟩ := eeWriteByte_policy (d := d) hf hk ha hord
  obtain ⟨hreg, hcfg, hfault, -⟩ := exec_kept ht
  have tclear : t.ee.arm = ⟨none, none, none⟩ := tarm.trans hclear
  have trej : eeAccepts (hi ++ lo) d t = false :=
    eeAccepts_unarmed (by rw [hcfg]; exact hr) hacc (by rw [tclear]; simp)
  obtain ⟨u, qs, hu, glog, gnone, glast, uarm⟩ := eeWriteByte_policy (s := t) (slot := slot) (d := d)
    (hfault.trans hf) ((congrArg (·[slot.toNat]) hreg).trans hk) (by rw [hcfg]; exact ha) (by rw [hcfg]; exact hord)
  have uclear : u.ee.arm = ⟨none, none, none⟩ := by rw [uarm, hcfg, hclear]
  rw [hrej] at hnone
  rw [trej] at gnone glast
  refine ⟨t, u, rs ++ qs, ht, tclear, hu, uclear, by rw [glog, hlog, List.append_assoc], ?_, ?_⟩
  · rw [persistWrites_append, hnone, gnone]
    rfl
  · rw [acksOf_append, List.getLast?_append, glast]
    rfl

/-- The arm's bytes are the address's and the data exactly where the address and the data are (R194). -/
theorem arm_matches_iff (a a' : U16) (d d' : Byte) :
    (⟨some (hi8 a), some (lo8 a), some d⟩ : Arm) = ⟨some (hi8 a'), some (lo8 a'), some d'⟩ ↔ a' = a ∧ d' = d := by
  simp only [Arm.mk.injEq, Option.some.injEq]
  constructor
  · rintro ⟨hhi, hlo, hd⟩
    exact ⟨by rw [← cat16_hi8_lo8 a, ← cat16_hi8_lo8 a', hhi, hlo], hd.symm⟩
  · rintro ⟨rfl, rfl⟩
    exact ⟨rfl, rfl, rfl⟩

/-- Settles O38: the three arm frames load the arm register by register, and the policy compares it with the write. -/
theorem protectedWriteNeedsTheExactArm : Obligations.ProtectedWriteNeedsTheExactArm := by
  intro s slot a a' d d' r hf hk ha hsp hord hr hkind hacc
  have hs : EeReady slot s := ⟨hf, hk, ha, hsp⟩
  obtain ⟨t₁, h₁, kept₁, arm₁, store₁⟩ := armFrame_stopped (d := hi8 a) hs (.inl ⟨rfl, rfl⟩)
  obtain ⟨t₂, h₂, kept₂, arm₂, store₂⟩ := armFrame_stopped (d := lo8 a) (hs.kept kept₁) (.inr (.inl ⟨rfl, rfl⟩))
  obtain ⟨t₃, h₃, kept₃, arm₃, store₃⟩ :=
    armFrame_stopped (d := d) (hs.kept (kept₁.trans kept₂)) (.inr (.inr ⟨rfl, rfl⟩))
  have kept := (kept₁.trans kept₂).trans kept₃
  have hcfg : t₃.cfg = s.cfg := kept.cfg
  have harm : t₃.ee.arm = ⟨some (hi8 a), some (lo8 a), some d⟩ := by rw [arm₃, arm₂, arm₁]
  have haddr : hi8 a' ++ lo8 a' = a' := cat16_hi8_lo8 a'
  have hpolicy : eeAccepts a' d' t₃ = true ↔ a' = a ∧ d' = d := by
    rw [eeAccepts_protected (by rw [hcfg]; exact hr) hkind hacc, harm, arm_matches_iff]
  obtain ⟨hf', hk', ha', -⟩ := hs.kept kept
  obtain ⟨t, rs, ht, hlog, hstore, hlast, htarm⟩ :=
    eeWriteByte_policy (s := t₃) (hi := hi8 a') (lo := lo8 a') (d := d') hf' hk' ha' (by rw [hcfg, haddr]; exact hord)
  rw [haddr, hcfg, eeStoreIndex_some hr] at hstore
  rw [haddr] at hlast
  simp only [hpolicy] at hstore hlast
  obtain ⟨qs, glog, gnone⟩ := (store₁.trans store₂).trans store₃
  refine ⟨t, qs ++ rs, ?_, by rw [hlog, glog, List.append_assoc], ?_, ?_, by rw [htarm, hcfg]⟩
  · exact (execAll_append h₁ _).trans ((execAll_append h₂ _).trans ((execAll_append h₃ _).trans (execAll_cons ht [])))
  · rw [persistWrites_append, gnone, hstore]
    rfl
  · rw [acksOf_append, List.getLast?_append, hlast]
    rfl

end Sys2Proof.Machine
end

section
/-! The write frames of the ADC, the GPI and the SRAM (spec/30_encoding.md R88, R90, R92), and the wrap law of an SRAM
write (spec/46_sram.md R270). -/

namespace Sys2Proof.Machine

/-! ### A frame of one byte -/

/-- A frame of one written byte, which fills the grant of the Start (R134). -/
theorem runFrame_oneByte {s v : State} {slot : Slot} {b : Byte} (hf : s.fault = none) (ha : s.cfg.answers slot = true)
    (hlast : dataEvent b false (addressMatch slot .write s) = v) : runFrame slot .write [.byte b] s = v := by
  refine (runFrame_bytes hf ha .write [b]).trans ?_
  simp [busEvents_cons, busEvent, hf, busEvents_nil, hlast]

/-- The address byte of an ADC write: the staging byte (R221). -/
theorem addressMatch_adcWrite {slot : Slot} {s : State} (hk : s.deviceAt slot = some .adc) :
    addressMatch slot .write s =
      { restartStop s with
        eng := ⟨.addressed, slot, .write, 0, 1, some ⟨.adcStage, 0, 1⟩⟩
        wd := armedWatchdog s.cfg
        log := (restartStop s).log ++ [.call slot ⟨.write, .start⟩ 0] ++ [.ack .ack] } :=
  addressMatch_answered hk rfl

/-- Settles O43: the command byte is staged and configures, with no collaborator read. -/
theorem adcCommandFrame : Obligations.AdcCommandFrame := by
  intro s slot b hf hk ha r
  have hdev : r.deviceAt slot = some .adc := (restartStop_deviceAt s slot).trans hk
  refine congrArg _ (runFrame_oneByte hf ha ?_)
  rw [addressMatch_adcWrite hk]
  refine Eq.trans (dataEvent_filled (ph := .addressed) (w := ⟨.adcStage, 0, 1⟩) rfl (by decide)
    (by exact Nat.zero_lt_one) hdev rfl) ?_
  simp [r, adcConfigure, State.storeByte, drained, Answer.refuse]

/-- All that GPI.WriteStart does (R242). -/
theorem handler_gpiWriteStart (n : Count) (s : State) :
    handler .gpi ⟨.write, .start⟩ n s =
      (.window .gpiStage 0 1,
        { s with gpi := { s.gpi with armed := false }, log := s.log ++ irqRecords s.gpi.irq false }) :=
  Prod.ext rfl (putGpi_eq { s.gpi with armed := false } s)

/-- All that GPI.WriteBufferFull does while signalling is disabled: the line stays down (R243). -/
theorem handler_gpiWriteBufferFull {s : State} (h : s.gpi.armed = false) (n : Count) :
    handler .gpi ⟨.write, .boundary⟩ n s = (.refuse .ack, { s with gpi := { s.gpi with mask := s.gpi.stage } }) := by
  refine Prod.ext rfl ((putGpi_eq { s.gpi with mask := s.gpi.stage } s).trans ?_)
  simp [irqRecords, Gpi.irq, h]

/-- The address byte of a GPI write: signalling disabled, the staging byte granted (R242). -/
theorem addressMatch_gpiWrite {slot : Slot} {s : State} (hk : s.deviceAt slot = some .gpi) :
    addressMatch slot .write s =
      { restartStop s with
        eng := ⟨.addressed, slot, .write, 0, 1, some ⟨.gpiStage, 0, 1⟩⟩
        wd := armedWatchdog s.cfg
        gpi := { (restartStop s).gpi with armed := false }
        log :=
          (restartStop s).log ++ [.call slot ⟨.write, .start⟩ 0] ++ irqRecords (restartStop s).gpi.irq false ++
            [.ack .ack] } :=
  addressMatch_answered hk (handler_gpiWriteStart _ _)

/-- Settles O48: the line drops at the Start, and the mask's change cannot raise it. -/
theorem gpiSetMaskFrame : Obligations.GpiSetMaskFrame := by
  intro s slot m hf hk ha r
  have hdev : r.deviceAt slot = some .gpi := (restartStop_deviceAt s slot).trans hk
  refine congrArg _ (runFrame_oneByte hf ha ?_)
  rw [addressMatch_gpiWrite hk]
  refine Eq.trans (dataEvent_filled (ph := .addressed) (w := ⟨.gpiStage, 0, 1⟩) rfl (by decide)
    (by exact Nat.zero_lt_one) hdev (handler_gpiWriteBufferFull (by exact rfl) _)) ?_
  have hirq : irqRecords r.gpi.irq false = if r.gpi.irq then [.irq false] else [] := by
    cases r.gpi.irq <;> rfl
  simp [r, State.storeByte, drained, Answer.refuse, ← hirq]

/-! ### The SRAM's address phase -/

/-- The address byte of an SRAM write: the address phase, the staging window of 2 bytes (R260). -/
theorem addressMatch_sramWrite {slot : Slot} {s : State} (hk : s.deviceAt slot = some .sram) :
    addressMatch slot .write s =
      { restartStop s with
        eng := ⟨.addressed, slot, .write, 0, 2, some ⟨.sramStage, 0, 2⟩⟩
        wd := armedWatchdog s.cfg
        sram := { (restartStop s).sram with wphase := .addrPhase }
        log := (restartStop s).log ++ [.call slot ⟨.write, .start⟩ 0] ++ [.ack .ack] } :=
  addressMatch_answered hk rfl

/-- The state after an SRAM write transaction's two address bytes, from the state before its address byte: the cursor is
set and the window to the top of the array is open (R261). -/
def sramOpened (slot : Slot) (hi lo : Byte) (r : State) : State :=
  let c := (cat16 hi lo).setWidth 9
  { r with
    eng := ⟨.exchanging, slot, .write, 0, 512 - c.setWidth 16, some ⟨.sram, c.toNat, 512 - c.setWidth 16⟩⟩
    wd := armedWatchdog r.cfg
    sram := { r.sram with cursor := c, wphase := .dataPhase, stage := #v[hi, lo] }
    log :=
      r.log ++ [.call slot ⟨.write, .start⟩ 0, .ack .ack, .ack .ack, .call slot ⟨.write, .boundary⟩ 2, .ack .ack] }

theorem stage_bytes (v : Vector Byte 2) (hi lo : Byte) : (v.setIfInBounds 0 hi).setIfInBounds 1 lo = #v[hi, lo] := by
  ext i hlt
  interval_cases i <;> simp

theorem handler_sramAddressFull {s : State} (h : s.sram.wphase = .addrPhase) (n : Count) :
    handler .sram ⟨.write, .boundary⟩ n s =
      (sramWriteWindow s.sram.stagedCursor,
        { s with sram := { s.sram with cursor := s.sram.stagedCursor, wphase := .dataPhase } }) := by
  simp only [handler, sramWriteBufferFull, h]
  rfl

theorem dataEvents_sramOpened {slot : Slot} {s : State} (hk : s.deviceAt slot = some .sram) (hi lo : Byte) :
    dataEvent lo false (dataEvent hi false (addressMatch slot .write s)) = sramOpened slot hi lo (restartStop s) := by
  have hdev : (restartStop s).deviceAt slot = some .sram := (restartStop_deviceAt s slot).trans hk
  have hfirst : dataEvent hi false (addressMatch slot .write s) = _ :=
    (congrArg _ (addressMatch_sramWrite hk)).trans
      (dataEvent_stored (w := ⟨.sramStage, 0, 2⟩) rfl (by decide) (by decide) (by decide) (Nat.zero_lt_succ 1))
  rw [hfirst]
  refine Eq.trans (dataEvent_filled (ph := .exchanging) (w := ⟨.sramStage, 0, 2⟩) (cnt := 0 + 1) rfl (by decide)
    (by exact Nat.lt_succ_self 1) hdev (handler_sramAddressFull (by exact rfl) _)) ?_
  obtain ⟨hwindow, hlen⟩ := sramWriteWindow_eq ((cat16 hi lo).setWidth 9)
  simp [sramOpened, State.storeByte, State.setSram, stage_bytes, Sram.stagedCursor, hwindow]
  exact hlen

/-- Settles O55: the two bytes fill the staging window, and a stop before any data byte leaves the cursor. -/
theorem sramSetCursorFrame : Obligations.SramSetCursorFrame := by
  intro s slot hi lo hf hk ha r c done
  have hc : (cat16 hi lo).setWidth 9 = c := stagedCursor_eq hi lo
  have hopened : sramOpened slot hi lo r = done := by
    simp [sramOpened, hc, done, r]
  have hbytes : ∀ fin, exec (.sramSetCursor slot hi lo fin) s =
      .next (busEvents (tokenEvents s.cfg .data [endToken fin]) done) := by
    intro fin
    refine congrArg _ ((runFrame_eq hf ha .write _).trans ?_)
    rw [← hopened, ← dataEvents_sramOpened hk]
    simp [tokenEvents, Heard.event, Heard.after, Token.event, busEvents_cons, busEvent, hf]
  refine ⟨hbytes .restart, (hbytes .stop).trans (congrArg _ ?_)⟩
  have hdev : done.deviceAt done.eng.slot = some .sram := (restartStop_deviceAt s slot).trans hk
  have hstop := endTransaction_some (s := done) (by simp [done]) hdev .stop
  refine Eq.trans ?_ (hstop.trans ?_)
  · simp [tokenEvents, Heard.event, Token.event, endToken, busEvents_cons, busEvent, busEvents_nil, done, r, hf]
  · simp [done, calledState, handler, sramWriteStop, sramWriteEnd, sramAdvance, State.emit, State.setSram, cursorStep]

end Sys2Proof.Machine
end

section
/-! The wrap law of an SRAM write (spec/46_sram.md R270): the bytes of a data phase of any length, window after window,
and the array they leave. -/

namespace Sys2Proof.Machine

/-! ### The array after a run of bytes -/

/-- The array after bytes written from an address on, modulo 512. -/
def Memory.writeRun : List Byte → Nat → Memory → Memory
  | [], _, m => m
  | b :: bs, p, m => Memory.writeRun bs (p + 1) (Memory.write (p % Config.sramSize) b m)

theorem Memory.read_writeRun_other {j : Nat} (bs : List Byte) {p : Nat} {m : Memory}
    (h : ∀ i, i < bs.length → (p + i) % Config.sramSize ≠ j) :
    Memory.read j (Memory.writeRun bs p m) = Memory.read j m := by
  induction bs generalizing p m with
  | nil => rfl
  | cons b bs ih =>
    have hrest : ∀ i, i < bs.length → (p + 1 + i) % Config.sramSize ≠ j := fun i hi => by
      have := h (i + 1) (Nat.succ_lt_succ hi)
      rwa [Nat.add_assoc, Nat.add_comm 1]
    have hfirst : j ≠ p % Config.sramSize := Ne.symm (h 0 (Nat.succ_pos _))
    rw [Memory.writeRun, ih hrest, Memory.read_write_other b m hfirst]

/-- Byte `i` of a run is the one its address holds, unless a later byte of the run overwrote it (R270). -/
theorem Memory.read_writeRun {bs : List Byte} {i p : Nat} {m : Memory} (hm : Memory.wf m = true) (hi : i < bs.length)
    (hlast : bs.length ≤ i + Config.sramSize) :
    bs[i]? = some (Memory.read ((p + i) % Config.sramSize) (Memory.writeRun bs p m)) := by
  have hsize : 0 < Config.sramSize := by decide
  induction bs generalizing i p m with
  | nil => cases hi
  | cons b bs ih =>
    cases i with
    | zero =>
      have hothers : ∀ i, i < bs.length → (p + 1 + i) % Config.sramSize ≠ p % Config.sramSize := fun i hi => by
        have hlen : bs.length + 1 ≤ 0 + 512 := hlast
        show (p + 1 + i) % 512 ≠ p % 512
        omega
      rw [Memory.writeRun, Nat.add_zero, Memory.read_writeRun_other bs hothers, Memory.read_write_same hm]
      rfl
    | succ i =>
      have hlen : bs.length ≤ i + Config.sramSize := by
        have : bs.length + 1 ≤ i + 1 + Config.sramSize := hlast
        omega
      have hnext := ih (p := p + 1) (Memory.wf_write (v := b) hm (Nat.mod_lt p hsize)) (Nat.lt_of_succ_lt_succ hi) hlen
      rw [Memory.writeRun, List.getElem?_cons_succ, hnext, Nat.add_assoc, Nat.add_comm 1]

/-! ### The data phase -/

/-- An SRAM write transaction in its data phase, the next byte due at address `p` modulo 512: the window reaches from
the cursor to the top of the array (R261, R262). -/
structure SramWriting (slot : Slot) (p : Nat) (s : State) : Prop where
  window : ∃ (base : Nat) (cnt rem len : Count),
    s.eng = ⟨.exchanging, slot, .write, cnt, rem, some ⟨.sram, base, len⟩⟩ ∧ rem ≠ 0 ∧
      base + cnt.toNat + rem.toNat = 512 ∧ s.sram.cursor.toNat = base ∧ p % 512 = base + cnt.toNat
  phase : s.sram.wphase = .dataPhase
  device : s.deviceAt slot = some .sram

/-- What a byte of the data phase leaves alone. -/
structure SramStep (s t : State) : Prop where
  ee : t.ee = s.ee
  adc : t.adc = s.adc
  gpi : t.gpi = s.gpi
  gpiCount : t.gpiCount = s.gpiCount

theorem SramStep.refl (s : State) : SramStep s s := ⟨rfl, rfl, rfl, rfl⟩

theorem SramStep.trans {s t u : State} (h : SramStep s t) (g : SramStep t u) : SramStep s u :=
  ⟨g.ee.trans h.ee, g.adc.trans h.adc, g.gpi.trans h.gpi, g.gpiCount.trans h.gpiCount⟩

/-- One byte of the data phase: acknowledged, stored at its address, the next byte due one further (R134, R262). -/
theorem SramWriting.data {slot : Slot} {p : Nat} {s : State} (h : SramWriting slot p s) (b : Byte) (m : Bool) :
    SramWriting slot (p + 1) (dataEvent b m s) ∧ SramStep s (dataEvent b m s) ∧
      (dataEvent b m s).sram.mem = Memory.write (p % Config.sramSize) b s.sram.mem ∧
      ∃ rs, (dataEvent b m s).log = s.log ++ rs ∧ acksOf rs = [.ack] := by
  obtain ⟨⟨base, cnt, rem, len, he, hrem, htop, hcur, hp⟩, hphase, hdev⟩ := h
  have hrem' : rem.toNat ≠ 0 := fun h0 => hrem (BitVec.eq_of_toNat_eq h0)
  have hroom : base + cnt.toNat < (Space.sram).size s.cfg := by
    show _ < 512
    omega
  have haddr : (base + cnt.toNat) % Config.sramSize = p % Config.sramSize := by
    show _ % 512 = p % 512
    omega
  by_cases h1 : rem = 1
  · subst h1
    have hfull := dataEvent_filled (w := ⟨.sram, base, len⟩) (rx := b) (m := m) he (by decide) hroom hdev
      (a := sramWriteWindow 0) (by simp only [handler, sramWriteBufferFull, State.storeByte, State.setSram, hphase]; rfl)
    rw [hfull]
    have hcnt : (cnt + 1).toNat = cnt.toNat + 1 := by bv_omega
    have hwrap : (s.sram.cursor + cursorStep (cnt + 1)).toNat = 0 := by
      rw [cursorStep, BitVec.toNat_add, BitVec.toNat_setWidth, hcnt, hcur]
      have h1 : (1 : Count).toNat = 1 := rfl
      omega
    refine ⟨⟨⟨0, 0, 512, 512, rfl, by decide, by decide, hwrap, ?_⟩, rfl, hdev⟩, ⟨rfl, rfl, rfl, rfl⟩,
      congrArg (Memory.write · b s.sram.mem) haddr, [_, .ack .ack], List.append_assoc _ _ _, rfl⟩
    have h1 : (1 : Count).toNat = 1 := rfl
    have h0 : (0 : Count).toNat = 0 := rfl
    omega
  · have hstored := dataEvent_stored (w := ⟨.sram, base, len⟩) (rx := b) (m := m) he (by decide) hrem h1 hroom
    rw [hstored]
    have hcnt : (cnt + 1).toNat = cnt.toNat + 1 := by bv_omega
    have hleft : (rem - 1).toNat = rem.toNat - 1 := by bv_omega
    have hmore : rem - 1 ≠ 0 := by bv_omega
    have hmore' : rem.toNat ≠ 1 := fun h => h1 (BitVec.eq_of_toNat_eq h)
    exact ⟨⟨⟨base, cnt + 1, rem - 1, len, rfl, hmore, by omega, hcur, by omega⟩, hphase, hdev⟩, ⟨rfl, rfl, rfl, rfl⟩,
      congrArg (Memory.write · b s.sram.mem) haddr, [.ack .ack], rfl, rfl⟩

/-- Any number of bytes of the data phase, in order (R270). -/
theorem SramWriting.datas {slot : Slot} (ds : List Byte) {p : Nat} {s : State} (hf : s.fault = none)
    (h : SramWriting slot p s) :
    let t := busEvents (ds.map fun b => .data b false) s
    SramWriting slot (p + ds.length) t ∧ SramStep s t ∧ t.sram.mem = Memory.writeRun ds p s.sram.mem ∧
      ∃ rs, t.log = s.log ++ rs ∧ acksOf rs = List.replicate ds.length .ack := by
  induction ds generalizing p s with
  | nil => exact ⟨h, .refl s, rfl, [], (List.append_nil _).symm, rfl⟩
  | cons b bs ih =>
    obtain ⟨hnext, hstep, hmem, rs, hlog, hacks⟩ := h.data b false
    obtain ⟨hend, hrest, hmem', qs, glog, gacks⟩ := ih ((dataEvent_fault b false s).trans hf) hnext
    have hcons : busEvents ((b :: bs).map fun b => .data b false) s =
        busEvents (bs.map fun b => .data b false) (dataEvent b false s) := busEvents_cons hf _ _
    intro t
    rw [show t = _ from hcons]
    refine ⟨?_, hstep.trans hrest, by rw [hmem', hmem]; rfl, rs ++ qs, by rw [glog, hlog, List.append_assoc], ?_⟩
    · rwa [List.length_cons, Nat.add_comm bs.length, ← Nat.add_assoc]
    · rw [acksOf_append, hacks, gacks]
      rfl

/-- The stop of a data phase leaves the cursor at the next address (R264). -/
theorem SramWriting.stop {slot : Slot} {p : Nat} {s : State} (h : SramWriting slot p s) :
    let u := endTransaction .stop s
    u.sram.cursor.toNat = p % 512 ∧ u.sram.mem = s.sram.mem ∧ SramStep s u := by
  obtain ⟨⟨base, cnt, rem, len, he, hrem, htop, hcur, hp⟩, hphase, hdev⟩ := h
  have hend := endTransaction_some (s := s) (k := .sram) (by simp [he]) (by rw [he]; exact hdev) .stop
  have hcalled (q : Slot) (n : Count) : calledState .sram q ⟨.write, .stop⟩ n s =
      sramAdvance n (s.emit (.call q ⟨.write, .stop⟩ n)) := by
    simp only [calledState, handler, sramWriteStop, sramWriteEnd, State.emit_sram, hphase]
  rw [he] at hend
  simp only [hcalled] at hend
  intro u
  rw [show u = _ from hend]
  refine ⟨?_, rfl, rfl, rfl, rfl, rfl⟩
  show (s.sram.cursor + cursorStep cnt).toNat = p % 512
  rw [cursorStep, BitVec.toNat_add, BitVec.toNat_setWidth, hcur]
  omega

/-! ### The frame -/

theorem exec_evStop (s : State) : exec .evStop s = .next (endTransaction .stop s) := rfl

@[simp] theorem restartStop_gpiCount (s : State) : (restartStop s).gpiCount = s.gpiCount :=
  (restartStop_frame s).choose_spec.2.gpiCount

theorem cursor_toNat (hi lo : Byte) : ((cat16 hi lo).setWidth 9).toNat = (256 * hi.toNat + lo.toNat) % 512 := by
  have hlo := lo.isLt
  have happend : (cat16 hi lo).toNat = 256 * hi.toNat + lo.toNat := by
    rw [cat16, BitVec.toNat_append, ← Nat.shiftLeft_add_eq_or_of_lt hlo, Nat.shiftLeft_eq, Nat.mul_comm]
  rw [BitVec.toNat_setWidth, happend]

/-- The data phase opens at the staged address (R261). -/
theorem sramOpened_writing {slot : Slot} {r : State} (hk : r.deviceAt slot = some .sram) (hi lo : Byte) :
    SramWriting slot ((256 * hi.toNat + lo.toNat) % 512) (sramOpened slot hi lo r) := by
  have hc := cursor_toNat hi lo
  have hlt : ((cat16 hi lo).setWidth 9).toNat < 512 := BitVec.isLt _
  refine ⟨⟨_, _, _, _, rfl, (sramWriteWindow_eq _).2, ?_, rfl, ?_⟩, rfl, hk⟩
  · have h0 : (0 : Count).toNat = 0 := rfl
    bv_omega
  · have h0 : (0 : Count).toNat = 0 := rfl
    omega

/-- Settles O56: the address bytes open the data phase, each data byte goes to the next address, the stop leaves the
cursor there. -/
theorem sramWriteWrapsModulo512 : Obligations.SramWriteWrapsModulo512 := by
  intro s slot hi lo ds hf hk ha hm a
  have hdev : (restartStop s).deviceAt slot = some .sram := (restartStop_deviceAt s slot).trans hk
  have hfault : (sramOpened slot hi lo (restartStop s)).fault = none := (restartStop_fault s).trans hf
  obtain ⟨hwriting, hstep, hmem, rs, hlog, hacks⟩ := (sramOpened_writing hdev hi lo).datas ds hfault
  obtain ⟨hcursor, hmem', hstop⟩ := hwriting.stop
  have hframe : runFrame slot .write (.byte hi :: .byte lo :: ds.map .byte) s =
      busEvents (ds.map fun b => .data b false) (sramOpened slot hi lo (restartStop s)) := by
    refine (runFrame_bytes hf ha .write (hi :: lo :: ds)).trans ?_
    rw [← dataEvents_sramOpened hk]
    simp [busEvents_cons, busEvent, hf]
  have hexec : exec (.sramWrite slot hi lo ds) s = .next _ := congrArg Host.Outcome.next hframe
  obtain ⟨hee, hadc, hgpi, hcount⟩ := hstep.trans hstop
  obtain ⟨hreg, -, hfault', -⟩ := (exec_kept hexec).trans (exec_kept (exec_evStop _))
  have hmem'' := hmem'.trans (hmem.trans (congrArg (Memory.writeRun ds a) (restartStop_mem s)))
  refine ⟨_, _, _ ++ rs, hexec, exec_evStop _, hlog.trans (List.append_assoc _ _ _), ?_, ?_, fun i hi hlast => ?_,
    fun j _ hj => ?_, hee, hadc, hgpi, hcount.trans (restartStop_gpiCount s), hreg, hfault'.trans hf⟩
  · rw [acksOf_append, hacks]
    rw [Nat.add_comm, List.replicate_add]
    rfl
  · rw [hcursor]
  · rw [hmem'']
    exact Memory.read_writeRun hm hi hlast
  · rw [hmem'']
    exact Memory.read_writeRun_other ds hj

end Sys2Proof.Machine
end

section
/-! The read frames (spec/30_encoding.md R86, R89, R91, R93): what one request sends, and the bytes that a grant which is
never renewed sends for any number of requests. -/

namespace Sys2Proof.Machine

/-! ### A frame of read requests -/

/-- The events of read requests. -/
def requests (reqs : List Bool) : List BusEvent := reqs.map fun nacked => .data Config.requestRx nacked

theorem runFrame_requests {slot : Slot} {s : State} (hf : s.fault = none) (ha : s.cfg.answers slot = true)
    (reqs : List Bool) :
    runFrame slot .read (reqs.map reqToken) s = busEvents (requests reqs) (addressMatch slot .read s) := by
  rw [runFrame_eq hf ha, tokenEvents_reqs]
  rfl

theorem busEvents_requests_cons {s : State} (hf : s.fault = none) (nacked : Bool) (reqs : List Bool) :
    busEvents (requests (nacked :: reqs)) s = busEvents (requests reqs) (dataEvent Config.requestRx nacked s) :=
  busEvents_cons hf _ _

/-- Nothing but the engine's and the watchdog's registers and the log differs. -/
def OnlyRegs (s t : State) : Prop := t = { s with eng := t.eng, wd := t.wd, log := t.log }

theorem OnlyRegs.refl (s : State) : OnlyRegs s s := rfl

theorem OnlyRegs.trans {s t u : State} (h : OnlyRegs s t) (g : OnlyRegs t u) : OnlyRegs s u := by
  unfold OnlyRegs at h g
  rw [g, h]
  rfl

theorem OnlyRegs.fields {s t : State} (h : OnlyRegs s t) :
    t.ee = s.ee ∧ t.adc = s.adc ∧ t.gpi = s.gpi ∧ t.sram = s.sram ∧ t.draws = s.draws ∧ t.asked = s.asked ∧
      t.gpiCount = s.gpiCount ∧ t.reg = s.reg ∧ t.cfg = s.cfg ∧ t.fault = s.fault := by
  rw [h]
  exact ⟨rfl, rfl, rfl, rfl, rfl, rfl, rfl, rfl, rfl, rfl⟩

/-! ### One request (R133) -/

/-- A request after the master's NACK, once a byte of the grant was sent. -/
theorem dataEvent_nacked {s : State} {ph : EnginePhase} {slot : Slot} {cnt rem : Count} {g : Option Win} {rx : Byte}
    (he : s.eng = ⟨ph, slot, .read, cnt, rem, g⟩) (hp : ph ≠ .idle) (hc : cnt ≠ 0) :
    dataEvent rx true s =
      { s with
        eng := ⟨.exchanging, slot, .read, cnt, rem, g⟩, wd := armedWatchdog s.cfg
        log := s.log ++ [.tx Config.fill] } := by
  rw [dataEvent_read (by rw [he]; exact hp) (by rw [he]), sendByte_nacked (by rw [he]; exact hc)]
  simp only [openExchange, State.setEng, State.rearm, State.setWd, State.emit, he]
  rfl

/-- A request while capacity is left sends the granted byte. -/
theorem dataEvent_sent {s : State} {ph : EnginePhase} {slot : Slot} {cnt rem : Count} {w : Win} {rx b : Byte} {m : Bool}
    (he : s.eng = ⟨ph, slot, .read, cnt, rem, some w⟩) (hp : ph ≠ .idle) (hm : m = false ∨ cnt = 0) (hr : rem ≠ 0)
    (hroom : w.base + cnt.toNat < w.space.size s.cfg) (hb : s.readByte w.space (w.base + cnt.toNat) = some b) :
    dataEvent rx m s =
      { s with
        eng := ⟨.exchanging, slot, .read, cnt + 1, rem - 1, some w⟩, wd := armedWatchdog s.cfg
        log := s.log ++ [.tx b] } := by
  have hshift : shiftOut (openExchange s) = (openExchange s).countByte.emit (.tx b) :=
    shiftOut_read (s := openExchange s) (w := w) (b := b) (by simpa [openExchange, he] using hr)
      (by simp [openExchange, he]) (by simpa [openExchange, he] using hroom)
      (by rw [readByte_openExchange]; simpa [openExchange, he] using hb)
  rw [dataEvent_read (by rw [he]; exact hp) (by rw [he]), sendByte_wanted (by rw [he]; exact hm),
    if_neg (by rw [he]; exact hr), hshift]
  simp only [openExchange, State.countByte, State.setEng, State.rearm, State.setWd, State.emit, he]
  rfl

/-- A request with no capacity left, of a device that grants none. -/
theorem dataEvent_refused {s u : State} {ph : EnginePhase} {slot : Slot} {cnt : Count} {g : Option Win}
    {k : DeviceKind} {rx : Byte} {m : Bool} {a : Answer} (he : s.eng = ⟨ph, slot, .read, cnt, 0, g⟩) (hp : ph ≠ .idle)
    (hm : m = false ∨ cnt = 0) (hk : s.deviceAt slot = some k)
    (ha : handler k ⟨.read, .boundary⟩ cnt
      { s with
        eng := ⟨.exchanging, slot, .read, cnt, 0, g⟩, wd := armedWatchdog s.cfg
        log := s.log ++ [.call slot ⟨.read, .boundary⟩ cnt] } = (a, u)) (hcap : a.cap = 0) :
    dataEvent rx m s = { u with eng := drained .exchanging slot .read, log := u.log ++ [.tx Config.fill] } := by
  have hopen : openExchange s = { s with eng := ⟨.exchanging, slot, .read, cnt, 0, g⟩, wd := armedWatchdog s.cfg } := by
    simp only [openExchange, State.setEng, State.rearm, State.setWd, he]
    rfl
  have hcall : handler k ⟨.read, .boundary⟩ (openExchange s).eng.cnt
      ((openExchange s).emit (.call (openExchange s).eng.slot ⟨.read, .boundary⟩ (openExchange s).eng.cnt)) = (a, u) := by
    rw [hopen]
    exact ha
  have hrefill := refill_refused (k := k) (s := openExchange s) (by rw [hopen]; exact hk) (by rw [hopen])
  rw [hcall] at hrefill
  rw [dataEvent_read (by rw [he]; exact hp) (by rw [he]), sendByte_wanted (by rw [he]; exact hm),
    if_pos (by rw [he]), hrefill hcap, hopen]

/-- A request with no capacity left, of a device that grants a new window: its first byte is sent. -/
theorem dataEvent_renewed {s u : State} {ph : EnginePhase} {slot : Slot} {cnt cap : Count} {g : Option Win}
    {k : DeviceKind} {rx b : Byte} {m : Bool} {w : Win} {answered : Ack} (he : s.eng = ⟨ph, slot, .read, cnt, 0, g⟩)
    (hp : ph ≠ .idle) (hm : m = false ∨ cnt = 0) (hk : s.deviceAt slot = some k)
    (ha : handler k ⟨.read, .boundary⟩ cnt
      { s with
        eng := ⟨.exchanging, slot, .read, cnt, 0, g⟩, wd := armedWatchdog s.cfg
        log := s.log ++ [.call slot ⟨.read, .boundary⟩ cnt] } = (⟨some w, cap, answered⟩, u)) (hcap : cap ≠ 0)
    (hroom : w.base < w.space.size s.cfg) (hb : u.readByte w.space w.base = some b) :
    dataEvent rx m s =
      { u with eng := ⟨.exchanging, slot, .read, 1, cap - 1, some w⟩, log := u.log ++ [.tx b] } := by
  have hopen : openExchange s = { s with eng := ⟨.exchanging, slot, .read, cnt, 0, g⟩, wd := armedWatchdog s.cfg } := by
    simp only [openExchange, State.setEng, State.rearm, State.setWd, he]
    rfl
  have hframe := handler_frame k ⟨.read, .boundary⟩ cnt
    { s with
      eng := ⟨.exchanging, slot, .read, cnt, 0, g⟩, wd := armedWatchdog s.cfg
      log := s.log ++ [.call slot ⟨.read, .boundary⟩ cnt] }
  rw [ha] at hframe
  have hueng : u.eng = ⟨.exchanging, slot, .read, cnt, 0, g⟩ := hframe.eng
  have hucfg : u.cfg = s.cfg := hframe.cfg
  have hcall : handler k ⟨.read, .boundary⟩ (openExchange s).eng.cnt
      ((openExchange s).emit (.call (openExchange s).eng.slot ⟨.read, .boundary⟩ (openExchange s).eng.cnt)) =
        (⟨some w, cap, answered⟩, u) := by
    rw [hopen]
    exact ha
  have hrefill := refill_some (k := k) (s := openExchange s) (by rw [hopen]; exact hk)
  dsimp only at hrefill
  rw [hcall, settled_boundary _ _ hcap] at hrefill
  have hshift : shiftOut (u.install ⟨some w, cap, answered⟩) = (u.install ⟨some w, cap, answered⟩).countByte.emit (.tx b) :=
    shiftOut_read (w := w) hcap rfl (by rw [← hucfg] at hroom; exact hroom)
      ((readByte_install w.space w.base _ u).trans hb)
  rw [dataEvent_read (by rw [he]; exact hp) (by rw [he]), sendByte_wanted (by rw [he]; exact hm),
    if_pos (by rw [he]), hrefill, hshift]
  simp only [State.install, State.countByte, State.setEng, State.emit, hueng]
  rfl

/-! ### A read transaction and what its grant has left -/

/-- A read transaction of a slot with `n` bytes of its grant sent and the bytes `ws` of it left (R26, R133). -/
structure Streaming (slot : Slot) (n : Nat) (ws : List Byte) (s : State) : Prop where
  regs : ∃ ph cnt rem g, s.eng = ⟨ph, slot, .read, cnt, rem, g⟩ ∧ ph ≠ .idle ∧ cnt.toNat = n ∧ rem.toNat = ws.length ∧
    n + ws.length < 65536 ∧ ∀ i b, ws[i]? = some b → ∃ w, g = some w ∧ w.base + n + i < w.space.size s.cfg ∧
      s.readByte w.space (w.base + n + i) = some b
  wd : s.wd = armedWatchdog s.cfg

theorem Streaming.open {slot : Slot} {n : Nat} {ws : List Byte} {s : State} (h : Streaming slot n ws s) :
    s.eng.phase ≠ .idle ∧ s.eng.slot = slot ∧ s.eng.dir = .read := by
  obtain ⟨ph, cnt, rem, g, he, hp, -⟩ := h.regs
  rw [he]
  exact ⟨hp, rfl, rfl⟩

/-- A request after the master's NACK, once a byte was sent, leaves the grant as it is. -/
theorem Streaming.nacked {slot : Slot} {n : Nat} {ws : List Byte} {s : State} (h : Streaming slot n ws s) (hn : n ≠ 0)
    (rx : Byte) :
    Streaming slot n ws (dataEvent rx true s) ∧ OnlyRegs s (dataEvent rx true s) ∧
      (dataEvent rx true s).log = s.log ++ [.tx Config.fill] := by
  obtain ⟨⟨ph, cnt, rem, g, he, hp, hcnt, hrem, hlt, hbytes⟩, -⟩ := h
  have hc : cnt ≠ 0 := by
    rintro rfl
    exact hn hcnt.symm
  rw [dataEvent_nacked he hp hc]
  exact ⟨⟨⟨.exchanging, cnt, rem, g, rfl, by decide, hcnt, hrem, hlt, hbytes⟩, rfl⟩, rfl, rfl⟩

/-- A request while a byte is left sends it. -/
theorem Streaming.sent {slot : Slot} {n : Nat} {b : Byte} {ws : List Byte} {s : State}
    (h : Streaming slot n (b :: ws) s) {m : Bool} (hm : m = false ∨ n = 0) (rx : Byte) :
    Streaming slot (n + 1) ws (dataEvent rx m s) ∧ OnlyRegs s (dataEvent rx m s) ∧
      (dataEvent rx m s).log = s.log ++ [.tx b] := by
  obtain ⟨⟨ph, cnt, rem, g, he, hp, hcnt, hrem, hlt, hbytes⟩, -⟩ := h
  obtain ⟨w, rfl, hroom, hb⟩ := hbytes 0 b rfl
  rw [List.length_cons] at hrem hlt
  have hr : rem ≠ 0 := by
    rintro rfl
    exact Nat.succ_ne_zero _ hrem.symm
  have hm' : m = false ∨ cnt = 0 := hm.imp_right fun h0 => BitVec.eq_of_toNat_eq (hcnt.trans h0)
  rw [dataEvent_sent he hp hm' hr (by rw [hcnt]; exact hroom) (by rw [hcnt]; exact hb)]
  refine ⟨⟨⟨.exchanging, cnt + 1, rem - 1, some w, rfl, by decide, by bv_omega, by bv_omega, by omega, ?_⟩, rfl⟩, rfl, rfl⟩
  intro i b' hi
  obtain ⟨w', hw', hroom', hb'⟩ := hbytes (i + 1) b' hi
  cases hw'
  have hidx : w.base + n + (i + 1) = w.base + (n + 1) + i := by omega
  rw [hidx] at hroom' hb'
  exact ⟨w, rfl, hroom', hb'⟩

/-- A request with none left, of a device that never grants again, sends FILL and leaves no grant. -/
theorem Streaming.refused {slot : Slot} {n : Nat} {s : State} {k : DeviceKind} (h : Streaming slot n [] s) {m : Bool}
    (hm : m = false ∨ n = 0) (hk : s.deviceAt slot = some k)
    (hrefuse : ∀ c u, handler k ⟨.read, .boundary⟩ c u = (.refuse .ack, u)) (rx : Byte) :
    Streaming slot 0 [] (dataEvent rx m s) ∧ OnlyRegs s (dataEvent rx m s) ∧
      ∃ c, (dataEvent rx m s).log = s.log ++ [.call slot ⟨.read, .boundary⟩ c, .tx Config.fill] := by
  obtain ⟨⟨ph, cnt, rem, g, he, hp, hcnt, hrem, hlt, hbytes⟩, -⟩ := h
  have hr : rem = 0 := BitVec.eq_of_toNat_eq hrem
  subst hr
  have hm' : m = false ∨ cnt = 0 := hm.imp_right fun h0 => BitVec.eq_of_toNat_eq (hcnt.trans h0)
  rw [dataEvent_refused he hp hm' hk (hrefuse _ _) rfl]
  exact ⟨⟨⟨.exchanging, 0, 0, none, rfl, by decide, rfl, rfl, by decide, nofun⟩, rfl⟩, rfl, cnt, List.append_assoc _ _ _⟩

/-- The bytes sent from a grant that is never renewed (R133, R226, R247). -/
theorem Streaming.fixed {slot : Slot} {k : DeviceKind}
    (hrefuse : ∀ c u, handler k ⟨.read, .boundary⟩ c u = (.refuse .ack, u)) (reqs : List Bool) {n : Nat} {ws : List Byte}
    {s : State} (hf : s.fault = none) (hk : s.deviceAt slot = some k) (h : Streaming slot n ws s) :
    let t := busEvents (requests reqs) s
    (∃ n' ws', Streaming slot n' ws' t) ∧ OnlyRegs s t ∧
      ∃ rs, t.log = s.log ++ rs ∧ txBytes rs = streamed ws (n == 0) reqs := by
  induction reqs generalizing n ws s with
  | nil => exact ⟨⟨n, ws, h⟩, .refl s, [], (List.append_nil _).symm, rfl⟩
  | cons nacked reqs ih =>
    have hnext {n' : Nat} {ws' : List Byte} {qs : List Record}
        (hstep : Streaming slot n' ws' (dataEvent Config.requestRx nacked s) ∧
          OnlyRegs s (dataEvent Config.requestRx nacked s) ∧
          (dataEvent Config.requestRx nacked s).log = s.log ++ qs)
        (hsent : txBytes qs ++ streamed ws' (n' == 0) reqs = streamed ws (n == 0) (nacked :: reqs)) :
        (∃ n' ws', Streaming slot n' ws' (busEvents (requests (nacked :: reqs)) s)) ∧
          OnlyRegs s (busEvents (requests (nacked :: reqs)) s) ∧
          ∃ rs, (busEvents (requests (nacked :: reqs)) s).log = s.log ++ rs ∧
            txBytes rs = streamed ws (n == 0) (nacked :: reqs) := by
      obtain ⟨hs, hregs, hlog⟩ := hstep
      obtain ⟨hend, hrest, rs, glog, gtx⟩ :=
        ih ((dataEvent_fault _ _ s).trans hf) ((congrArg (State.deviceAt · slot) hregs).trans hk) hs
      rw [busEvents_requests_cons hf]
      exact ⟨hend, hregs.trans hrest, qs ++ rs, by rw [glog, hlog, List.append_assoc], by rw [txBytes_append, gtx, hsent]⟩
    by_cases hn : nacked = true ∧ n ≠ 0
    · obtain ⟨rfl, hn⟩ := hn
      exact hnext (h.nacked hn _) (by simp [streamed, txBytes, hn])
    · have hm : nacked = false ∨ n = 0 := by
        cases nacked <;> simp_all
      have hwanted : (nacked && !(n == 0)) = false := by
        rcases hm with rfl | rfl <;> simp
      cases ws with
      | cons b ws => exact hnext (h.sent hm _) (by simp [streamed, txBytes, hwanted])
      | nil =>
        obtain ⟨hs, hregs, c, hlog⟩ := h.refused hm hk hrefuse Config.requestRx
        exact hnext ⟨hs, hregs, hlog⟩ (by simp [streamed, txBytes, hwanted])

end Sys2Proof.Machine
end

section
/-! The read frames of the ADC and the GPI (spec/30_encoding.md R89, R91): a grant that is never renewed; the ADC's
read-after-write law (spec/44_adc.md R229); and the one byte a request that every read frame sends (R97, R133). -/

namespace Sys2Proof.Machine

/-! ### ADC_READ -/

/-- A conversion reads the ADC's configuration and the collaborator's answers only (R220). -/
theorem adcConvert_regs (s : State) (e : Engine) (w : Watchdog) (l : List Record) :
    adcConvert { s with eng := e, wd := w, log := l } =
      ((adcConvert s).1, { (adcConvert s).2 with eng := e, wd := w, log := l }) := by
  unfold adcConvert
  split <;> rfl

/-- The address byte of an ADC read: the conversion, its result granted (R225). -/
theorem addressMatch_adcRead {slot : Slot} {s : State} (hk : s.deviceAt slot = some .adc) :
    let r := restartStop s
    addressMatch slot .read s =
      { r with
        eng := ⟨.addressed, slot, .read, 0, 1, some ⟨.adcRes, 0, 1⟩⟩
        wd := armedWatchdog s.cfg
        adc := { r.adc with res := (adcConvert r).1 }
        draws := (adcConvert r).2.draws
        asked := (adcConvert r).2.asked
        log := r.log ++ [.call slot ⟨.read, .start⟩ 0] ++ [.ack .ack] } := by
  refine Eq.trans (addressMatch_answered (dir := .read) hk (adcReadStart_eq 0 _)) ?_
  rw [adcConvert_regs]
  rfl

/-- A read frame whose grant is never renewed (R133): the bytes sent, and no register but the engine's, the watchdog's
and the log after the address byte. -/
theorem readFrame_fixed {slot : Slot} {k : DeviceKind} {s : State} {ws : List Byte}
    (hrefuse : ∀ c u, handler k ⟨.read, .boundary⟩ c u = (.refuse .ack, u)) (hf : s.fault = none)
    (hk : s.deviceAt slot = some k) (ha : s.cfg.answers slot = true)
    (hopen : Streaming slot 0 ws (addressMatch slot .read s)) (reqs : List Bool) :
    let t := runFrame slot .read (reqs.map reqToken) s
    OnlyRegs (addressMatch slot .read s) t ∧
      (∃ rs, t.log = (addressMatch slot .read s).log ++ rs ∧ txBytes rs = streamed ws true reqs) ∧
      t.eng.phase ≠ .idle ∧ t.eng.slot = slot ∧ t.eng.dir = .read ∧ t.wd = armedWatchdog s.cfg ∧ t.reg = s.reg ∧
      t.fault = none := by
  have hfault : (addressMatch slot .read s).fault = none := (addressMatch_fault slot .read s).trans hf
  have hreg : (addressMatch slot .read s).reg = s.reg := (changes_addressMatch slot .read s).kept.reg
  have hcfg : (addressMatch slot .read s).cfg = s.cfg := addressMatch_cfg slot .read s
  obtain ⟨⟨n, ws', hend⟩, hregs, hlog⟩ :=
    hopen.fixed hrefuse reqs hfault ((addressMatch_deviceAt slot slot .read s).trans hk)
  obtain ⟨hphase, hslot, hdir⟩ := hend.open
  intro t
  rw [show t = _ from runFrame_requests hf ha reqs]
  exact ⟨hregs, hlog, hphase, hslot, hdir,
    hend.wd.trans (congrArg armedWatchdog ((congrArg State.cfg hregs).trans hcfg)),
    (congrArg State.reg hregs).trans hreg, (congrArg State.fault hregs).trans hfault⟩

/-- Settles O44: the one granted byte is the result, and the device grants no other. -/
theorem adcReadFrame : Obligations.AdcReadFrame := by
  intro s slot reqs hf hk ha
  have hstart := addressMatch_adcRead hk
  have hopen : Streaming slot 0 [(adcConvert (restartStop s)).1] (addressMatch slot .read s) := by
    rw [hstart]
    refine ⟨⟨.addressed, 0, 1, _, rfl, by decide, rfl, rfl, Nat.lt_of_sub_eq_succ rfl, fun i b hi => ⟨_, rfl, ?_⟩⟩, ?_⟩
    · cases i with
      | zero => exact ⟨Nat.zero_lt_one, by simpa [State.readByte] using hi⟩
      | succ i => simp at hi
    · rw [← restartStop_cfg s]
  obtain ⟨hregs, ⟨rs, hlog, htx⟩, hphase, hslot, hdir, hwd, hreg, hfault⟩ :=
    readFrame_fixed (k := .adc) (fun _ _ => rfl) hf hk ha hopen reqs
  rw [hstart] at hregs hlog
  obtain ⟨hee, hadc, hgpi, hsram, -, hasked, hcount, -⟩ := hregs.fields
  refine ⟨_, .call slot ⟨.read, .start⟩ 0 :: .ack .ack :: rs, rfl, ?_, ?_, hadc, hasked, hphase, hslot, hdir, hee, hgpi,
    hsram, hwd, hcount.trans (restartStop_gpiCount s), hreg, hfault⟩
  · rw [hlog, List.append_assoc, List.append_assoc]
    rfl
  · rw [hadc]
    exact htx

/-- A stop of an ADC transaction changes nothing of the ADC (R223, R227). -/
theorem endTransaction_adc {s : State} {slot : Slot} {dir : Dir} (hp : s.eng.phase ≠ .idle) (hs : s.eng.slot = slot)
    (hd : s.eng.dir = dir) (hk : s.deviceAt slot = some .adc) :
    endTransaction .stop s =
      { s with
        eng := drained .idle slot dir, wd := offWatchdog, log := s.log ++ [.call slot ⟨dir, .stop⟩ s.eng.cnt] } := by
  subst hs hd
  rw [endTransaction_some hp hk]
  cases hd : s.eng.dir <;> rfl

/-- The difference of two bytes in the default encoding is their difference as bytes (R220). -/
theorem adcEncode_sub {p : Params} (h : p.adcDiffEnc = .mod256) (x y : Byte) :
    adcEncode p ((x.toNat : Int) - y.toNat) = x - y := by
  have henc := adcEncode_mod256 h ((x.toNat : Int) - y.toNat)
  apply BitVec.eq_of_toNat_eq
  have hx := x.isLt
  have hy := y.isLt
  rw [BitVec.toNat_sub]
  omega

/-- The conversion of the default parameters (R220, R229). -/
theorem adcConvert_default {s : State} (hpol : s.cfg.adcDiffPol = .setIsChanMinusPair)
    (henc : s.cfg.adcDiffEnc = .mod256) :
    let q0 := adcSampleReq s s.adc.chan
    let q1 := adcSampleReq s (pairOf s.adc.chan)
    let x := s.answerTo q0
    let y := (s.noteRead q0).answerTo q1
    (adcConvert s).1 = (if s.adc.se then x else if s.adc.chan.getLsbD 0 then x - y else y - x) ∧
      (adcConvert s).2.asked = s.asked ++ (if s.adc.se then [q0] else [q0, q1]) := by
  intro q0 q1 x y
  cases hse : s.adc.se with
  | true =>
    rw [adcConvert_single hse]
    exact ⟨rfl, rfl⟩
  | false =>
    rw [adcConvert_pair hse]
    refine ⟨?_, List.append_assoc _ _ _⟩
    cases hc : s.adc.chan.getLsbD 0 with
    | true =>
      have hdiff : adcDiff s.cfg s.adc.chan x y = (x.toNat : Int) - y.toNat := by
        rw [adcDiff_eq, hpol, hc]
        rfl
      exact (congrArg (adcEncode s.cfg) hdiff).trans (adcEncode_sub henc x y)
    | false =>
      have hdiff : adcDiff s.cfg s.adc.chan x y = (y.toNat : Int) - x.toNat := by
        rw [adcDiff_eq, hpol, hc]
        rfl
      exact (congrArg (adcEncode s.cfg) hdiff).trans (adcEncode_sub henc y x)

/-- The command frame from Idle, then a stop (R222, R223): the configuration is the command's, nothing is asked. -/
theorem adcCommand_stopped {s : State} {slot : Slot} (b : Byte) (hf : s.fault = none) (hp : s.eng.phase = .idle)
    (hk : s.deviceAt slot = some .adc) (ha : s.cfg.answers slot = true) :
    ∃ u, execAll [.adcCmd slot b, .evStop] s = some u ∧ Kept s u ∧ u.eng.phase = .idle ∧ u.draws = s.draws ∧ u.asked = s.asked ∧
      (u.adc.se = (b.getLsbD 7 == s.cfg.adcSeValue) ∧ u.adc.chan = b.extractLsb' 4 3 ∧ u.adc.ref = b.extractLsb' 3 1) ∧
      ∃ rs, u.log = s.log ++ rs ∧ txBytes rs = [] := by
  have hcmd := adcCommandFrame s slot b hf hk ha
  rw [restartStop_idle hp] at hcmd
  obtain ⟨t, ht, heng, hreg, hadc, hdraws, hasked, hlog⟩ :
      ∃ t, exec (.adcCmd slot b) s = .next t ∧ t.eng = drained .exchanging slot .write ∧ t.reg = s.reg ∧
        (t.adc.se = (b.getLsbD 7 == s.cfg.adcSeValue) ∧ t.adc.chan = b.extractLsb' 4 3 ∧
          t.adc.ref = b.extractLsb' 3 1) ∧ t.draws = s.draws ∧ t.asked = s.asked ∧
        t.log = s.log ++ [.call slot ⟨.write, .start⟩ 0, .ack .ack, .call slot ⟨.write, .boundary⟩ 1, .ack .ack] :=
    ⟨_, hcmd, rfl, rfl, ⟨rfl, rfl, rfl⟩, rfl, rfl, rfl⟩
  have hstop := endTransaction_adc (s := t) (slot := slot) (dir := .write) (by simp [heng, drained]) (by rw [heng]; rfl)
    (by rw [heng]; rfl) ((congrArg (·[slot.toNat]) hreg).trans hk)
  have hevent : exec .evStop t = .next _ := (exec_evStop t).trans (congrArg Host.Outcome.next hstop)
  exact ⟨_, (execAll_cons ht _).trans (execAll_cons hevent []), (exec_kept ht).trans (exec_kept hevent), rfl, hdraws,
    hasked, hadc, _, (congrArg (· ++ [_]) hlog).trans (List.append_assoc _ _ _), rfl⟩

theorem answerTo_congr {s t : State} (hd : t.draws = s.draws) (ha : t.asked = s.asked) (q : Request) :
    t.answerTo q = s.answerTo q := by
  unfold State.answerTo
  rw [hd, ha]

/-- Settles O45: the command frame leaves the configuration the conversion of the read frame uses. -/
theorem adcReadFollowsTheLastCommand : Obligations.AdcReadFollowsTheLastCommand := by
  intro s slot b hf hp hk ha hse hpol henc c ref q0 q1 x y
  obtain ⟨u, hu, ⟨ureg, ucfg, ufault, -⟩, hidle, hdraws, hasked, ⟨use, uchan, uref⟩, rs, hlog, htx⟩ :=
    adcCommand_stopped b hf hp hk ha
  have udev : u.deviceAt slot = some .adc := (congrArg (·[slot.toNat]) ureg).trans hk
  obtain ⟨t, qs, ht, glog, gtx, tadc, tasked, tphase, tslot, tdir, -, -, -, -, -, treg, -⟩ :=
    adcReadFrame u slot [false, true] (ufault.trans hf) udev (by rw [ucfg]; exact ha)
  rw [restartStop_idle hidle] at glog tadc tasked
  have tdev : t.deviceAt slot = some .adc := (congrArg (·[slot.toNat]) treg).trans udev
  have hstop : exec .evStop t = .next _ :=
    (exec_evStop t).trans (congrArg Host.Outcome.next (endTransaction_adc tphase tslot tdir tdev))
  obtain ⟨hvalue, hrequests⟩ := adcConvert_default (s := u) (by rw [ucfg]; exact hpol) (by rw [ucfg]; exact henc)
  have hx : u.answerTo q0 = x := answerTo_congr hdraws hasked q0
  have hy : (u.noteRead q0).answerTo q1 = y :=
    answerTo_congr (congrArg List.tail hdraws) (congrArg (· ++ [q0]) hasked) q1
  have hse' : u.adc.se = b.getLsbD 7 := by rw [use, hse, beq_true]
  have hq0 : adcSampleReq u u.adc.chan = q0 := by simp only [adcSampleReq, hwChannel, ucfg, uchan, uref, q0, c, ref]
  have hq1 : adcSampleReq u (pairOf u.adc.chan) = q1 := by
    simp only [adcSampleReq, hwChannel, pairOf, ucfg, uchan, uref, q1, c, ref]
    rfl
  rw [hq0, hq1, hx, hy, hse', uchan] at hvalue
  rw [hq0, hq1, hse', hasked] at hrequests
  refine ⟨_, rs ++ (qs ++ [.call slot ⟨.read, .stop⟩ t.eng.cnt]), (execAll_append hu _).trans ((execAll_cons ht _).trans (execAll_cons hstop [])), ?_, ?_,
    tasked.trans hrequests⟩
  · simp only [glog, hlog, List.append_assoc]
  · rw [txBytes_append, htx, txBytes_append, gtx, tadc, hvalue]
    rfl

/-! ### GPI_READ -/

theorem txBytes_irqRecords (old new : Bool) : txBytes (irqRecords old new) = [] := by
  unfold irqRecords
  split <;> rfl

/-- The GPI after ReadStart, the pins read as `v` (R246). -/
def Gpi.readStarted (v : Byte) (g : Gpi) : Gpi :=
  { g with armed := false, prev := g.cur, cur := v, trans := 0, rbuf := #v[v, g.trans ||| (v ^^^ g.cur)] }

/-- All that GPI.ReadStart does (R246). -/
theorem handler_gpiReadStart (n : Count) (s : State) :
    ∃ rs, txBytes rs = [] ∧ handler .gpi ⟨.read, .start⟩ n s =
      (.window .gpiRbuf 0 2,
        { s with
          gpi := s.gpi.readStarted (s.answerTo .pinRead), draws := s.draws.tail, asked := s.asked ++ [.pinRead]
          log := s.log ++ rs }) := by
  let g := { s.gpi with armed := false }
  let sample := g.sampled (s.answerTo .pinRead)
  refine ⟨irqRecords s.gpi.irq g.irq ++ irqRecords g.irq sample.irq ++ irqRecords sample.irq sample.captured.irq, ?_,
    Prod.ext rfl ?_⟩
  · simp only [txBytes_append, txBytes_irqRecords, List.append_nil]
  · simp only [handler, gpiReadStart, putGpi_eq, gpiSample_eq, ← List.append_assoc]
    rfl

/-- The address byte of a GPI read: the sample, the response granted (R246). -/
theorem addressMatch_gpiRead {slot : Slot} {s : State} (hk : s.deviceAt slot = some .gpi) :
    let r := restartStop s
    ∃ rs, txBytes rs = [] ∧ addressMatch slot .read s =
      { r with
        eng := ⟨.addressed, slot, .read, 0, 2, some ⟨.gpiRbuf, 0, 2⟩⟩
        wd := armedWatchdog s.cfg
        gpi := r.gpi.readStarted (r.answerTo .pinRead)
        draws := r.draws.tail
        asked := r.asked ++ [.pinRead]
        log := r.log ++ [.call slot ⟨.read, .start⟩ 0] ++ rs ++ [.ack .ack] } := by
  obtain ⟨rs, htx, hstart⟩ := handler_gpiReadStart 0
    { restartStop s with
      eng := drained .addressed slot .read, wd := armedWatchdog s.cfg
      log := (restartStop s).log ++ [.call slot ⟨.read, .start⟩ 0] }
  exact ⟨rs, htx, addressMatch_answered hk hstart⟩

/-- Settles O49: the two granted bytes are the sample and the latch, and the device grants no other. -/
theorem gpiReadFrame : Obligations.GpiReadFrame := by
  intro s slot reqs hf hk ha
  obtain ⟨qs, hqs, hstart⟩ := addressMatch_gpiRead hk
  let g := (restartStop s).gpi
  let v := (restartStop s).answerTo .pinRead
  have hopen : Streaming slot 0 [v, g.trans ||| (v ^^^ g.cur)] (addressMatch slot .read s) := by
    rw [hstart]
    refine ⟨⟨.addressed, 0, 2, _, rfl, by decide, rfl, rfl, Nat.lt_of_sub_eq_succ rfl, fun i b hi => ⟨_, rfl, ?_⟩⟩, ?_⟩
    · obtain ⟨hlt, -⟩ := List.getElem?_eq_some_iff.mp hi
      refine ⟨by simpa [Space.size] using hlt, ?_⟩
      rw [← hi]
      match i, hlt with
      | 0, _ => rfl
      | 1, _ => rfl
    · rw [← restartStop_cfg s]
  obtain ⟨hregs, ⟨rs, hlog, htx⟩, hphase, hslot, hdir, hwd, hreg, hfault⟩ :=
    readFrame_fixed (k := .gpi) (fun _ _ => rfl) hf hk ha hopen reqs
  rw [hstart] at hregs hlog
  obtain ⟨hee, hadc, hgpi, hsram, -, hasked, hcount, -⟩ := hregs.fields
  refine ⟨_, [.call slot ⟨.read, .start⟩ 0] ++ qs ++ [.ack .ack] ++ rs, rfl, ?_, ?_, hgpi, hasked, hphase, hslot, hdir,
    hee, hadc, hsram, hwd, hcount.trans (restartStop_gpiCount s), hreg, hfault⟩
  · rw [hlog]
    simp only [List.append_assoc]
  · simp only [txBytes_append, hqs, htx]
    rfl

/-! ### One byte a request -/

theorem shiftOut_place (s : State) : (shiftOut s).eng.slot = s.eng.slot ∧ (shiftOut s).eng.dir = s.eng.dir := by
  unfold shiftOut
  split
  · exact ⟨rfl, rfl⟩
  · split <;> exact ⟨rfl, rfl⟩

/-- A call's answer installed leaves the transaction's slot and direction (R111). -/
theorem call_place {slot : Slot} {ph : Phase} {n : Count} {s t : State} {a : Answer}
    (h : call slot ph n s = .answered a t) : t.eng.slot = s.eng.slot ∧ t.eng.dir = s.eng.dir := by
  obtain ⟨a', t', hcall, ⟨k, -, hframe⟩, -⟩ := call_answered slot ph n s
  cases h.symm.trans hcall
  rw [hframe.eng]
  exact ⟨rfl, rfl⟩

/-- A data event keeps the transaction's slot and direction (R133 to R135). -/
theorem dataEvent_place (rx : Byte) (m : Bool) (s : State) :
    (dataEvent rx m s).eng.slot = s.eng.slot ∧ (dataEvent rx m s).eng.dir = s.eng.dir := by
  by_cases hp : s.eng.phase = .idle
  · rw [dataEvent_idle hp]
    exact ⟨rfl, rfl⟩
  cases hd : s.eng.dir with
  | read =>
    rw [dataEvent_read hp hd, ← hd]
    unfold sendByte
    split
    · exact ⟨rfl, rfl⟩
    · split
      · obtain ⟨a, t, hcall, -⟩ := call_answered s.eng.slot ⟨.read, .boundary⟩ s.eng.cnt (openExchange s)
        obtain ⟨hslot, hdir⟩ := call_place hcall
        have hrefill : refill (openExchange s) = shiftOut (t.install a) := by
          unfold refill
          rw [show call (openExchange s).eng.slot _ (openExchange s).eng.cnt _ = _ from hcall]
        obtain ⟨sslot, sdir⟩ := shiftOut_place (t.install a)
        rw [hrefill]
        exact ⟨sslot.trans hslot, sdir.trans hdir⟩
      · exact shiftOut_place (openExchange s)
  | write =>
    rw [dataEvent_write hp hd, ← hd]
    unfold receiveByte
    split
    · exact ⟨rfl, rfl⟩
    · split
      · exact ⟨rfl, rfl⟩
      · next sp i _ =>
        have hstore := (storeByte_frame sp i rx (openExchange s)).1
        have hslot₀ : ((openExchange s).storeByte sp i rx).countByte.eng.slot = s.eng.slot := by
          change ((openExchange s).storeByte sp i rx).eng.slot = _
          rw [hstore]
          rfl
        have hdir₀ : ((openExchange s).storeByte sp i rx).countByte.eng.dir = s.eng.dir := by
          change ((openExchange s).storeByte sp i rx).eng.dir = _
          rw [hstore]
          rfl
        split
        · obtain ⟨a, t, hcall, -⟩ := call_answered ((openExchange s).storeByte sp i rx).countByte.eng.slot
            ⟨.write, .boundary⟩ ((openExchange s).storeByte sp i rx).countByte.eng.cnt
            ((openExchange s).storeByte sp i rx).countByte
          obtain ⟨hslot, hdir⟩ := call_place hcall
          unfold deliverFull
          rw [hcall]
          exact ⟨hslot.trans hslot₀, hdir.trans hdir₀⟩
        · exact ⟨hslot₀, hdir₀⟩

/-- Requests of an open read transaction send one byte each (R133). -/
theorem busEvents_requests_records (reqs : List Bool) {s : State} (hi : inv s = true) (hp : s.eng.phase ≠ .idle)
    (hd : s.eng.dir = .read) :
    ∃ rs, (busEvents (requests reqs) s).log = s.log ++ rs ∧ (txBytes rs).length = reqs.length := by
  induction reqs generalizing s with
  | nil => exact ⟨[], (List.append_nil _).symm, rfl⟩
  | cons nacked reqs ih =>
    obtain ⟨rs, hlog, -, hone⟩ := sendByte_records nacked s
    have hsend : dataEvent Config.requestRx nacked s = sendByte nacked s := dataEvent_read hp hd _ _
    have hphase : (dataEvent Config.requestRx nacked s).eng.phase ≠ .idle := by
      rw [hsend]
      exact (live_sendByte nacked (inv_grantInv hi)).phase
    obtain ⟨qs, glog, grest⟩ :=
      ih (inv_dataEvent Config.requestRx nacked hi) hphase ((dataEvent_place _ _ s).2.trans hd)
    rw [busEvents_requests_cons (inv_fault hi)]
    refine ⟨rs ++ qs, by rw [glog, hsend, hlog, List.append_assoc], ?_⟩
    rw [txBytes_append, List.length_append, hone, grest, List.length_cons, Nat.add_comm]

/-- An address match opens a transaction of its slot and direction (R131). -/
theorem addressMatch_place (slot : Slot) (dir : Dir) (s : State) :
    (addressMatch slot dir s).eng.slot = slot ∧ (addressMatch slot dir s).eng.dir = dir := by
  cases hk : s.deviceAt slot with
  | none =>
    rw [addressMatch_unregistered hk]
    exact ⟨rfl, rfl⟩
  | some k =>
    rw [addressMatch_registered hk]
    exact ⟨rfl, rfl⟩

/-- An address match sends no byte (R131). -/
theorem addressMatch_tx (slot : Slot) (dir : Dir) (s : State) :
    ∃ rs, (addressMatch slot dir s).log = s.log ++ rs ∧ txBytes rs = [] := by
  obtain ⟨rs, hlog, -, htx, -⟩ := restartStop_records s
  cases hk : s.deviceAt slot with
  | none =>
    rw [addressMatch_unregistered hk]
    exact ⟨rs ++ [.ack .nack], by rw [hlog, List.append_assoc], by rw [txBytes_append, htx]; rfl⟩
  | some k =>
    obtain ⟨qs, glog, -, gtx⟩ := addressMatch_records hk dir
    exact ⟨rs ++ qs, by rw [glog, hlog, List.append_assoc], by rw [txBytes_append, htx, gtx]; rfl⟩

/-- Settles O37: the four frames are one address byte, which sends nothing, and their requests, one byte each. -/
theorem readFramesSendOneByteARequest : Obligations.ReadFramesSendOneByteARequest := by
  intro s slot reqs i hi ha hread
  have hexec : exec i s = .next (runFrame slot .read (reqs.map reqToken) s) := by
    obtain rfl | rfl | rfl | rfl := hread <;> rfl
  have hframe := runFrame_requests (inv_fault hi) ha reqs
  have hlive := live_addressMatch slot .read s
  have hopen : inv (addressMatch slot .read s) = true := inv_of_live hi (changes_addressMatch slot .read s) hlive
  have hdir : (addressMatch slot .read s).eng.dir = .read := (addressMatch_place slot .read s).2
  obtain ⟨rs, hlog, htx⟩ := addressMatch_tx slot .read s
  obtain ⟨qs, glog, gtx⟩ := busEvents_requests_records reqs hopen hlive.phase hdir
  refine ⟨_, rs ++ qs, hexec, ?_, ?_, inv_exec hi hexec⟩
  · rw [hframe, glog, hlog, List.append_assoc]
  · rw [txBytes_append, htx, List.nil_append, gtx]

end Sys2Proof.Machine
end

section
/-! The EEPROM's read frame (spec/30_encoding.md R86; spec/43_eeprom.md R190 to R192): window after window, each filled
from where the one before ended. -/

namespace Sys2Proof.Machine

/-! ### The bytes of the EEPROM and what they are read from -/

/-- Two states that answer the same collaborator reads (R8, log 3). -/
structure SameReads (s t : State) : Prop where
  cfg : t.cfg = s.cfg
  draws : t.draws = s.draws
  asked : t.asked = s.asked

theorem SameReads.ask {s t : State} (h : SameReads s t) (q : Request) :
    (t.ask q).1 = (s.ask q).1 ∧ SameReads (s.ask q).2 (t.ask q).2 :=
  ⟨answerTo_congr h.draws h.asked q,
    ⟨h.cfg, congrArg List.tail h.draws, congrArg (· ++ [q]) h.asked⟩⟩

theorem SameReads.eeByte {s t : State} (h : SameReads s t) (a : U16) :
    (eeByte a t).1 = (eeByte a s).1 ∧ SameReads (eeByte a s).2 (eeByte a t).2 := by
  unfold Machine.eeByte
  rw [h.cfg]
  cases regionAt s.cfg a with
  | none => exact ⟨rfl, h⟩
  | some r =>
    dsimp only
    cases r.kind with
    | persist | program | snapshot => exact h.ask _
    | fillr => exact ⟨rfl, h⟩

theorem SameReads.eeBytes {s t : State} (h : SameReads s t) (k : Nat) (a : U16) :
    (eeBytes k a t).1 = (eeBytes k a s).1 ∧ SameReads (eeBytes k a s).2 (eeBytes k a t).2 := by
  induction k generalizing a s t with
  | zero => exact ⟨rfl, h⟩
  | succ k ih =>
    obtain ⟨hb, hnext⟩ := h.eeByte a
    obtain ⟨hbs, hend⟩ := ih hnext (a + 1)
    exact ⟨List.cons_eq_cons.mpr ⟨hb, hbs⟩, hend⟩

/-- The bytes of two runs side by side (R185). -/
theorem eeBytes_add (j k : Nat) (a : U16) (s : State) :
    eeBytes (j + k) a s =
      ((eeBytes j a s).1 ++ (eeBytes k (a + BitVec.ofNat 16 j) (eeBytes j a s).2).1,
        (eeBytes k (a + BitVec.ofNat 16 j) (eeBytes j a s).2).2) := by
  induction j generalizing a s with
  | zero => simp [eeBytes]
  | succ j ih =>
    have ha : a + 1 + BitVec.ofNat 16 j = a + BitVec.ofNat 16 (j + 1) := by
      rw [BitVec.add_assoc, Nat.add_comm j 1, BitVec.ofNat_add]
      rfl
    rw [Nat.add_right_comm]
    simp only [eeBytes, ih, ha, List.cons_append]

/-- Reading the EEPROM changes the collaborator's answers and nothing else (R8, R181). -/
theorem eeByte_state (a : U16) (s : State) :
    (eeByte a s).2 = { s with draws := (eeByte a s).2.draws, asked := (eeByte a s).2.asked } := by
  unfold eeByte
  cases regionAt s.cfg a with
  | none => rfl
  | some r => cases hk : r.kind <;> simp only [hk] <;> rfl

theorem eeBytes_state (k : Nat) (a : U16) (s : State) :
    (eeBytes k a s).2 = { s with draws := (eeBytes k a s).2.draws, asked := (eeBytes k a s).2.asked } := by
  induction k generalizing a s with
  | zero => rfl
  | succ k ih =>
    rw [eeBytes]
    dsimp only
    rw [ih, eeByte_state]

/-- All that filling the window does, field by field (R185). -/
theorem fillWindow_state (c : U16) (s : State) :
    let fill := eeBytes s.cfg.eeWindow.toNat c s
    fillWindow c s =
      { s with ee := { s.ee with win := fill.1 }, draws := fill.2.draws, asked := fill.2.asked } := by
  intro fill
  rw [fillWindow_eq, eeBytes_state]

/-- The read window granted (R190, R191). -/
theorem handler_eeReadStart (n : Count) (s : State) :
    let fill := eeBytes s.cfg.eeWindow.toNat s.ee.cursor s
    handler .eeprom ⟨.read, .start⟩ n s =
      (⟨some ⟨.eeWin, 0, s.cfg.eeWindow⟩, s.cfg.eeWindow, .ack⟩,
        { s with ee := { s.ee with win := fill.1 }, draws := fill.2.draws, asked := fill.2.asked }) :=
  Prod.ext rfl (fillWindow_state s.ee.cursor s)

/-- The next read window, from where the one before ended (R191). -/
theorem handler_eeReadBufferEmpty (n : Count) (s : State) :
    let fill := eeBytes s.cfg.eeWindow.toNat (s.ee.cursor + n) s
    handler .eeprom ⟨.read, .boundary⟩ n s =
      (⟨some ⟨.eeWin, 0, s.cfg.eeWindow⟩, s.cfg.eeWindow, .ack⟩,
        { s with
          ee := { s.ee with cursor := s.ee.cursor + n, win := fill.1 }, draws := fill.2.draws
          asked := fill.2.asked }) := by
  intro fill
  have hreads : SameReads s (eeAdvance n s) := ⟨rfl, rfl, rfl⟩
  obtain ⟨hbytes, -, hdraws, hasked⟩ := hreads.eeBytes s.cfg.eeWindow.toNat (s.ee.cursor + n)
  refine Prod.ext rfl ((fillWindow_state (s.ee.cursor + n) (eeAdvance n s)).trans ?_)
  simp only [eeAdvance, State.setEe] at hbytes hdraws hasked ⊢
  simp only [hbytes, hdraws, hasked, fill]

/-! ### The address byte -/

/-- The address byte of an EEPROM read: the window filled from the cursor and granted (R190). -/
theorem addressMatch_eeRead {slot : Slot} {s : State} (hk : s.deviceAt slot = some .eeprom) (hw : s.cfg.eeWindow ≠ 0) :
    let r := restartStop s
    let fill := eeBytes s.cfg.eeWindow.toNat r.ee.cursor r
    addressMatch slot .read s =
      { r with
        eng := ⟨.addressed, slot, .read, 0, s.cfg.eeWindow, some ⟨.eeWin, 0, s.cfg.eeWindow⟩⟩
        wd := armedWatchdog s.cfg
        ee := { r.ee with win := fill.1 }
        draws := fill.2.draws
        asked := fill.2.asked
        log := r.log ++ [.call slot ⟨.read, .start⟩ 0] ++ [.ack .ack] } := by
  intro r fill
  let called : State :=
    { r with
      eng := drained .addressed slot .read, wd := armedWatchdog s.cfg, log := r.log ++ [.call slot ⟨.read, .start⟩ 0] }
  have hcfg : r.cfg = s.cfg := restartStop_cfg s
  have hreads : SameReads r called := ⟨rfl, rfl, rfl⟩
  obtain ⟨hbytes, -, hdraws, hasked⟩ := hreads.eeBytes s.cfg.eeWindow.toNat r.ee.cursor
  have hstart := handler_eeReadStart 0 called
  have hcalled : called.cfg = s.cfg := hcfg
  have hcursor : called.ee.cursor = r.ee.cursor := rfl
  simp only [hcalled, hcursor, hbytes, hdraws, hasked] at hstart
  refine Eq.trans (addressMatch_answered (dir := .read) hk hstart) ?_
  rw [if_neg hw]
  simp only [called, hcfg, fill]

/-- The whole window is left right after the address byte (R190). -/
theorem eeRead_streaming {slot : Slot} {s : State} (hk : s.deviceAt slot = some .eeprom) (hw : s.cfg.eeWindow ≠ 0) :
    Streaming slot 0 (eeBytes s.cfg.eeWindow.toNat (restartStop s).ee.cursor (restartStop s)).1
      (addressMatch slot .read s) := by
  have hlen := eeBytes_length s.cfg.eeWindow.toNat (restartStop s).ee.cursor (restartStop s)
  rw [addressMatch_eeRead hk hw]
  refine ⟨⟨.addressed, 0, s.cfg.eeWindow, _, rfl, by decide, rfl, hlen.symm, ?_, fun i b hi => ⟨_, rfl, ?_, ?_⟩⟩, ?_⟩
  · rw [Nat.zero_add, hlen]
    exact s.cfg.eeWindow.isLt
  · obtain ⟨hlt, -⟩ := List.getElem?_eq_some_iff.mp hi
    rw [hlen] at hlt
    simpa [Space.size] using hlt
  · simpa [State.readByte] using hi
  · rw [← restartStop_cfg s]

/-! ### Requests within a window -/

theorem streamed_nacked {nacked fresh : Bool} (h : (nacked && !fresh) = true) (ws : List Byte) (reqs : List Bool) :
    streamed ws fresh (nacked :: reqs) = Config.fill :: streamed ws fresh reqs := by
  cases ws <;> exact if_pos h

theorem streamed_sent {nacked fresh : Bool} (h : ¬(nacked && !fresh) = true) (b : Byte) (ws : List Byte)
    (reqs : List Bool) : streamed (b :: ws) fresh (nacked :: reqs) = b :: streamed ws false reqs :=
  if_neg h

/-- The bytes sent while the grant holds all that are asked for (R133). -/
theorem Streaming.within {slot : Slot} (reqs : List Bool) {n : Nat} {ws : List Byte} {s : State} (hf : s.fault = none)
    (h : Streaming slot n ws s) (hroom : consumed (n == 0) reqs ≤ ws.length) :
    let t := busEvents (requests reqs) s
    Streaming slot (n + consumed (n == 0) reqs) (ws.drop (consumed (n == 0) reqs)) t ∧ OnlyRegs s t ∧
      t.log = s.log ++ (streamed ws (n == 0) reqs).map Record.tx := by
  induction reqs generalizing n ws s with
  | nil => exact ⟨h, .refl s, (List.append_nil _).symm⟩
  | cons nacked reqs ih =>
    have hf' : (dataEvent Config.requestRx nacked s).fault = none := (dataEvent_fault _ _ s).trans hf
    rw [busEvents_requests_cons hf]
    by_cases hskip : (nacked && !(n == 0)) = true
    · obtain ⟨rfl, hn⟩ : nacked = true ∧ n ≠ 0 := by simpa using hskip
      rw [consumed, if_pos hskip] at hroom
      obtain ⟨hs, hregs, hlog⟩ := h.nacked hn Config.requestRx
      obtain ⟨hend, hrest, glog⟩ := ih hf' hs hroom
      rw [consumed, streamed_nacked hskip, if_pos hskip]
      exact ⟨hend, hregs.trans hrest, by rw [glog, hlog, List.append_assoc]; rfl⟩
    · have hm : nacked = false ∨ n = 0 := by
        cases nacked <;> simp_all
      rw [consumed, if_neg hskip] at hroom
      cases ws with
      | nil => cases hroom
      | cons b ws =>
        obtain ⟨hs, hregs, hlog⟩ := h.sent hm Config.requestRx
        obtain ⟨hend, hrest, glog⟩ := ih hf' hs (Nat.le_of_succ_le_succ hroom)
        rw [consumed, streamed_sent hskip, if_neg hskip]
        refine ⟨?_, hregs.trans hrest, by rw [glog, hlog, List.append_assoc]; rfl⟩
        rw [Nat.add_right_comm] at hend
        exact hend

/-- Settles O36: the window granted at the address byte holds every byte asked for. -/
theorem eeReadFrameSendsTheWindow : Obligations.EeReadFrameSendsTheWindow := by
  intro s slot reqs hf hk ha hw hroom
  have hlen := eeBytes_length s.cfg.eeWindow.toNat (restartStop s).ee.cursor (restartStop s)
  have hstart := addressMatch_eeRead hk hw
  have hfault : (addressMatch slot .read s).fault = none := (addressMatch_fault slot .read s).trans hf
  obtain ⟨hend, hregs, hlog⟩ := (eeRead_streaming hk hw).within reqs hfault (by rw [hlen]; exact hroom)
  rw [← runFrame_requests hf ha] at hend hregs hlog
  rw [hstart] at hregs hlog
  obtain ⟨hee, hadc, hgpi, hsram, hdraws, hasked, hcount, hreg, hcfg, hfault'⟩ := hregs.fields
  have hcfg' : (runFrame slot .read (reqs.map reqToken) s).cfg = s.cfg := hcfg.trans (restartStop_cfg s)
  refine ⟨_, rfl, ?_⟩
  intro r opened fill
  have hreads : SameReads r opened := ⟨rfl, rfl, rfl⟩
  obtain ⟨hbytes, -, -, hfilled⟩ := hreads.eeBytes s.cfg.eeWindow.toNat r.ee.cursor
  obtain ⟨hphase, hslot, hdir⟩ := hend.open
  obtain ⟨⟨ph, cnt, rem, g, heng, -, hcnt, hrem, -⟩, hwd⟩ := hend
  rw [show fill.1 = _ from hbytes, show fill.2.asked = _ from hfilled]
  refine ⟨hee, ?_, hasked, hphase, hslot, hdir, ?_, ?_, by rw [hwd, hcfg'], hadc, hgpi, hsram,
    hcount.trans (restartStop_gpiCount s), hreg.trans (restartStop_reg s), hfault'.trans ((restartStop_fault s).trans hf)⟩
  · rw [hlog, List.append_assoc, List.append_assoc]
    rfl
  · rw [heng]
    exact hcnt.trans (Nat.zero_add _)
  · rw [heng]
    exact hrem.trans (by rw [List.length_drop, hlen]; rfl)

end Sys2Proof.Machine
end

section
/-! The EEPROM's read frame of any number of requests (spec/43_eeprom.md R191, R192): the windows in order, and where
the cursor ends. -/

namespace Sys2Proof.Machine

/-- What an EEPROM read leaves alone: the other devices, the arm, the staging window (R40, R191). -/
structure EeReadStep (s t : State) : Prop where
  arm : t.ee.arm = s.ee.arm
  stage : t.ee.stage = s.ee.stage
  adc : t.adc = s.adc
  gpi : t.gpi = s.gpi
  sram : t.sram = s.sram
  gpiCount : t.gpiCount = s.gpiCount

theorem EeReadStep.refl (s : State) : EeReadStep s s := ⟨rfl, rfl, rfl, rfl, rfl, rfl⟩

theorem EeReadStep.trans {s t u : State} (h : EeReadStep s t) (g : EeReadStep t u) : EeReadStep s u :=
  ⟨g.arm.trans h.arm, g.stage.trans h.stage, g.adc.trans h.adc, g.gpi.trans h.gpi, g.sram.trans h.sram,
    g.gpiCount.trans h.gpiCount⟩

theorem OnlyRegs.eeReadStep {s t : State} (h : OnlyRegs s t) : EeReadStep s t := by
  rw [h]
  exact ⟨rfl, rfl, rfl, rfl, rfl, rfl⟩

theorem OnlyRegs.sameReads {s t : State} (h : OnlyRegs s t) : SameReads s t := by
  rw [h]
  exact ⟨rfl, rfl, rfl⟩

/-- An EEPROM read transaction with `ws` left of its window (R190, R191). -/
structure EeReading (slot : Slot) (n : Nat) (ws : List Byte) (s : State) : Prop where
  streaming : Streaming slot n ws s
  size : n + ws.length = s.cfg.eeWindow.toNat
  window : s.cfg.eeWindow ≠ 0
  device : s.deviceAt slot = some .eeprom
  length : s.ee.win.length = s.cfg.eeWindow.toNat
  fault : s.fault = none

/-- A request with the window used up: the next window is filled from where it ended, and its first byte sent (R191). -/
theorem EeReading.renewed {slot : Slot} {n : Nat} {s : State} (h : EeReading slot n [] s) (rx : Byte) :
    let fill := eeBytes s.cfg.eeWindow.toNat (s.ee.cursor + s.cfg.eeWindow) s
    ∃ b ws, fill.1 = b :: ws ∧ EeReading slot 1 ws (dataEvent rx false s) ∧ EeReadStep s (dataEvent rx false s) ∧
      (dataEvent rx false s).ee.cursor = s.ee.cursor + s.cfg.eeWindow ∧ SameReads fill.2 (dataEvent rx false s) ∧
      (dataEvent rx false s).log = s.log ++ [.call slot ⟨.read, .boundary⟩ s.cfg.eeWindow, .tx b] := by
  intro fill
  obtain ⟨⟨⟨ph, cnt, rem, g, he, hp, hcnt, hrem, -, -⟩, -⟩, hsize, hwindow, hdev, hlength, hfault⟩ := h
  have hr : rem = 0 := BitVec.eq_of_toNat_eq hrem
  have hn : cnt = s.cfg.eeWindow := BitVec.eq_of_toNat_eq (hcnt.trans hsize)
  subst hr hn
  have hlen : fill.1.length = s.cfg.eeWindow.toNat := eeBytes_length _ _ _
  have hpos : s.cfg.eeWindow.toNat ≠ 0 := fun h0 => hwindow (BitVec.eq_of_toNat_eq h0)
  obtain ⟨b, ws, hfill⟩ := List.exists_cons_of_length_pos (l := fill.1) (by omega)
  let called : State :=
    { s with
      eng := ⟨.exchanging, slot, .read, s.cfg.eeWindow, 0, g⟩, wd := armedWatchdog s.cfg
      log := s.log ++ [.call slot ⟨.read, .boundary⟩ s.cfg.eeWindow] }
  have hreads : SameReads s called := ⟨rfl, rfl, rfl⟩
  obtain ⟨hbytes, -, hdraws, hasked⟩ := hreads.eeBytes s.cfg.eeWindow.toNat (s.ee.cursor + s.cfg.eeWindow)
  have hcall := handler_eeReadBufferEmpty s.cfg.eeWindow called
  have hcalled : called.cfg = s.cfg := rfl
  have hcursor : called.ee.cursor = s.ee.cursor := rfl
  simp only [hcalled, hcursor, hbytes, hdraws, hasked] at hcall
  have hevent := dataEvent_renewed (rx := rx) (b := b) (m := false) he hp (.inl rfl) hdev hcall hwindow
    (by show 0 < s.cfg.eeWindow.toNat; omega) (by show fill.1[0]? = some b; rw [hfill]; rfl)
  have hlen' : ws.length + 1 = s.cfg.eeWindow.toNat := by rw [← hlen, hfill, List.length_cons]
  have hleft : (s.cfg.eeWindow - 1).toNat = ws.length := by bv_omega
  have hlt := s.cfg.eeWindow.isLt
  have hcfg : s.cfg = fill.2.cfg := (eeBytes_frame .adc _ _ s).cfg.symm
  refine ⟨b, ws, hfill, ?_⟩
  rw [hevent]
  refine ⟨⟨⟨⟨.exchanging, 1, s.cfg.eeWindow - 1, _, rfl, by decide, rfl, hleft, by omega, fun i b' hi => ⟨_, rfl, ?_, ?_⟩⟩,
    rfl⟩, (Nat.add_comm _ _).trans hlen', hwindow, hdev, hlen, hfault⟩, ⟨rfl, rfl, rfl, rfl, rfl, rfl⟩, rfl,
    ⟨hcfg, rfl, rfl⟩, List.append_assoc _ _ _⟩
  · obtain ⟨hlt, -⟩ := List.getElem?_eq_some_iff.mp hi
    show 0 + 1 + i < s.cfg.eeWindow.toNat
    omega
  · show fill.1[0 + 1 + i]? = some b'
    rw [hfill, Nat.zero_add, Nat.add_comm, List.getElem?_cons_succ, hi]

/-- A request after the master's NACK, in an EEPROM read. -/
theorem EeReading.nacked {slot : Slot} {n : Nat} {ws : List Byte} {s : State} (h : EeReading slot n ws s) (hn : n ≠ 0)
    (rx : Byte) : EeReading slot n ws (dataEvent rx true s) ∧ OnlyRegs s (dataEvent rx true s) ∧
      (dataEvent rx true s).log = s.log ++ [.tx Config.fill] := by
  obtain ⟨hs, hregs, hlog⟩ := h.streaming.nacked hn rx
  obtain ⟨hee, -, -, -, -, -, -, hreg, hcfg, hfault⟩ := hregs.fields
  exact ⟨⟨hs, by rw [hcfg]; exact h.size, by rw [hcfg]; exact h.window, (congrArg (·[slot.toNat]) hreg).trans h.device,
    by rw [hee, hcfg]; exact h.length, hfault.trans h.fault⟩, hregs, hlog⟩

/-- A request while a byte of the window is left, in an EEPROM read. -/
theorem EeReading.sent {slot : Slot} {n : Nat} {b : Byte} {ws : List Byte} {s : State} (h : EeReading slot n (b :: ws) s)
    {m : Bool} (hm : m = false ∨ n = 0) (rx : Byte) :
    EeReading slot (n + 1) ws (dataEvent rx m s) ∧ OnlyRegs s (dataEvent rx m s) ∧
      (dataEvent rx m s).log = s.log ++ [.tx b] := by
  obtain ⟨hs, hregs, hlog⟩ := h.streaming.sent hm rx
  obtain ⟨hee, -, -, -, -, -, -, hreg, hcfg, hfault⟩ := hregs.fields
  have hsize : n + 1 + ws.length = s.cfg.eeWindow.toNat := by
    rw [← h.size, List.length_cons]
    omega
  exact ⟨⟨hs, by rw [hcfg]; exact hsize, by rw [hcfg]; exact h.window, (congrArg (·[slot.toNat]) hreg).trans h.device,
    by rw [hee, hcfg]; exact h.length, hfault.trans h.fault⟩, hregs, hlog⟩

/-! ### Any number of requests -/

/-- How many more windows of `size` bytes a read of `n` bytes takes, with `left` of the present one left (R191). -/
def windowsMore (size left n : Nat) : Nat := (n - left + size - 1) / size

theorem windowsMore_zero {size : Nat} (hs : size ≠ 0) (left : Nat) : windowsMore size left 0 = 0 := by
  rw [windowsMore, Nat.zero_sub, Nat.zero_add]
  exact Nat.div_eq_of_lt (by omega)

theorem windowsMore_succ_left (size left n : Nat) : windowsMore size (left + 1) (n + 1) = windowsMore size left n := by
  rw [windowsMore, windowsMore, Nat.add_sub_add_right]

theorem windowsMore_renewed {size left : Nat} (hs : left + 1 = size) (n : Nat) :
    windowsMore size 0 (n + 1) = windowsMore size left n + 1 := by
  have hpos : 0 < size := by omega
  have hfirst : windowsMore size 0 (n + 1) = n / size + 1 := by
    rw [windowsMore, ← Nat.add_div_right n hpos]
    exact congrArg (· / size) (by omega)
  have hrest : windowsMore size left n = n / size := by
    unfold windowsMore
    rcases Nat.le_total left n with hle | hle
    · exact congrArg (· / size) (by omega)
    · rw [Nat.div_eq_of_lt (by omega), Nat.div_eq_of_lt (by omega)]
  rw [hfirst, hrest]

/-- How many more windows the requests take, with `ws` left of the present one. -/
def moreWindows (s : State) (n : Nat) (ws : List Byte) (reqs : List Bool) : Nat :=
  windowsMore s.cfg.eeWindow.toNat ws.length (consumed (n == 0) reqs)

/-- The bytes of the windows after the present one, and the state they leave. -/
def moreBytes (s : State) (n : Nat) (ws : List Byte) (reqs : List Bool) : List Byte × State :=
  eeBytes (moreWindows s n ws reqs * s.cfg.eeWindow.toNat) (s.ee.cursor + s.cfg.eeWindow) s

/-- What the requests of an EEPROM read send, call and leave, from any point of a window (R191). -/
structure EeRun (slot : Slot) (reqs : List Bool) (n : Nat) (ws : List Byte) (s t : State) : Prop where
  last : ∃ n' ws', EeReading slot n' ws' t ∧
    n' + moreWindows s n ws reqs * s.cfg.eeWindow.toNat = n + consumed (n == 0) reqs
  step : EeReadStep s t
  cursor : t.ee.cursor = s.ee.cursor + BitVec.ofNat 16 (moreWindows s n ws reqs * s.cfg.eeWindow.toNat)
  asked : t.asked = (moreBytes s n ws reqs).2.asked
  records : ∃ rs, t.log = s.log ++ rs ∧ txBytes rs = streamed (ws ++ (moreBytes s n ws reqs).1) (n == 0) reqs ∧
    acksOf rs = [] ∧
    callsOf rs = List.replicate (moreWindows s n ws reqs) (slot, ⟨.read, .boundary⟩, s.cfg.eeWindow)

theorem EeRun.nil {slot : Slot} {n : Nat} {ws : List Byte} {s : State} (h : EeReading slot n ws s) :
    EeRun slot [] n ws s s := by
  have hpos : s.cfg.eeWindow.toNat ≠ 0 := fun h0 => h.window (BitVec.eq_of_toNat_eq h0)
  have hmore : moreWindows s n ws [] = 0 := windowsMore_zero hpos _
  have hbytes : moreBytes s n ws [] = ([], s) := by
    rw [moreBytes, hmore, Nat.zero_mul]
    rfl
  refine ⟨⟨n, ws, h, ?_⟩, .refl s, ?_, ?_, [], (List.append_nil _).symm, rfl, rfl, ?_⟩
  · rw [hmore, Nat.zero_mul]
    rfl
  · rw [hmore, Nat.zero_mul]
    exact (BitVec.add_zero _).symm
  · rw [hbytes]
  · rw [hmore]
    rfl

/-- A request that no new window is filled for, before the others. -/
theorem EeRun.cons {slot : Slot} {nacked : Bool} {reqs : List Bool} {n n' : Nat} {ws ws' : List Byte} {b : Byte}
    {s u t : State} (hregs : OnlyRegs s u) (hlog : u.log = s.log ++ [.tx b])
    (hcount : n + consumed (n == 0) (nacked :: reqs) = n' + consumed (n' == 0) reqs)
    (hmore : moreWindows s n ws (nacked :: reqs) = moreWindows s n' ws' reqs)
    (hsent : ∀ xs, streamed (ws ++ xs) (n == 0) (nacked :: reqs) = b :: streamed (ws' ++ xs) (n' == 0) reqs)
    (h : EeRun slot reqs n' ws' u t) : EeRun slot (nacked :: reqs) n ws s t := by
  obtain ⟨⟨n'', ws'', hlast, hn⟩, hstep, hcursor, hasked, rs, glog, htx, hacks, hcalls⟩ := h
  obtain ⟨hee, -, -, -, -, -, -, -, hcfg, -⟩ := hregs.fields
  have hmore' : moreWindows u n' ws' reqs = moreWindows s n ws (nacked :: reqs) := by
    rw [hmore, moreWindows, moreWindows, hcfg]
  obtain ⟨hbytes, -, -, hfilled⟩ :=
    hregs.sameReads.eeBytes (moreWindows s n ws (nacked :: reqs) * s.cfg.eeWindow.toNat) (s.ee.cursor + s.cfg.eeWindow)
  have hmb : moreBytes u n' ws' reqs = eeBytes (moreWindows s n ws (nacked :: reqs) * s.cfg.eeWindow.toNat)
      (s.ee.cursor + s.cfg.eeWindow) u := by
    rw [moreBytes, hmore', hee, hcfg]
  rw [hmore', hcfg] at hn hcalls hcursor
  rw [hmb] at hasked htx
  refine ⟨⟨n'', ws'', hlast, hn.trans hcount.symm⟩, hregs.eeReadStep.trans hstep, by rw [hcursor, hee],
    hasked.trans hfilled, .tx b :: rs, by rw [glog, hlog, List.append_assoc]; rfl, ?_, hacks, hcalls⟩
  rw [hsent]
  exact congrArg (b :: ·) (htx.trans (by rw [hbytes]; rfl))

/-- A request that a new window is filled for, before the others (R191). -/
theorem EeRun.renewed {slot : Slot} {nacked : Bool} {reqs : List Bool} {n : Nat} {ws : List Byte} {b : Byte}
    {s u t : State} (hwanted : ¬(nacked && !(n == 0)) = true) (hn : n = s.cfg.eeWindow.toNat)
    (hlen : ws.length + 1 = s.cfg.eeWindow.toNat) 
    (hfill : (eeBytes s.cfg.eeWindow.toNat (s.ee.cursor + s.cfg.eeWindow) s).1 = b :: ws)
    (hstep : EeReadStep s u) (hcursor : u.ee.cursor = s.ee.cursor + s.cfg.eeWindow)
    (hreads : SameReads (eeBytes s.cfg.eeWindow.toNat (s.ee.cursor + s.cfg.eeWindow) s).2 u)
    (hlog : u.log = s.log ++ [.call slot ⟨.read, .boundary⟩ s.cfg.eeWindow, .tx b])
    (h : EeRun slot reqs 1 ws u t) : EeRun slot (nacked :: reqs) n [] s t := by
  obtain ⟨⟨n'', ws'', hlast, hn''⟩, hstep', hcursor', hasked, rs, glog, htx, hacks, hcalls⟩ := h
  have hcfg : u.cfg = s.cfg := hreads.cfg.trans (eeBytes_frame .adc _ _ s).cfg
  have hcount : consumed (n == 0) (nacked :: reqs) = consumed false reqs + 1 := if_neg hwanted
  have hmore : moreWindows s n [] (nacked :: reqs) = moreWindows u 1 ws reqs + 1 := by
    rw [moreWindows, moreWindows, hcount, hcfg]
    exact windowsMore_renewed hlen _
  have hsize : BitVec.ofNat 16 s.cfg.eeWindow.toNat = s.cfg.eeWindow := by simp
  have hprod : moreWindows s n [] (nacked :: reqs) * s.cfg.eeWindow.toNat =
      s.cfg.eeWindow.toNat + moreWindows u 1 ws reqs * s.cfg.eeWindow.toNat := by
    rw [hmore, Nat.add_mul, Nat.one_mul, Nat.add_comm]
  have hbytes := eeBytes_add s.cfg.eeWindow.toNat (moreWindows u 1 ws reqs * s.cfg.eeWindow.toNat)
    (s.ee.cursor + s.cfg.eeWindow) s
  obtain ⟨hnext, -, -, hfilled⟩ := hreads.eeBytes (moreWindows u 1 ws reqs * s.cfg.eeWindow.toNat)
    (s.ee.cursor + s.cfg.eeWindow + s.cfg.eeWindow)
  rw [hsize, hfill, ← hprod] at hbytes
  have hmb : moreBytes u 1 ws reqs = eeBytes (moreWindows u 1 ws reqs * s.cfg.eeWindow.toNat)
      (s.ee.cursor + s.cfg.eeWindow + s.cfg.eeWindow) u := by
    rw [moreBytes, hcursor, hcfg]
  rw [hcfg] at hn'' hcursor' hcalls
  rw [hmb] at hasked htx
  rw [hnext] at htx
  have hmore₁ : (moreBytes s n [] (nacked :: reqs)).1 = b :: ws ++ _ := congrArg Prod.fst hbytes
  have hmore₂ : (moreBytes s n [] (nacked :: reqs)).2.asked = _ := congrArg (fun p => p.2.asked) hbytes
  refine ⟨⟨n'', ws'', hlast, ?_⟩, hstep.trans hstep', ?_, hasked.trans (hfilled.trans hmore₂.symm),
    .call slot ⟨.read, .boundary⟩ s.cfg.eeWindow :: .tx b :: rs, ?_, ?_, hacks, ?_⟩
  · have hfresh : ((1 : Nat) == 0) = false := rfl
    rw [hfresh] at hn''
    rw [hprod, hcount]
    omega
  · rw [hcursor', hcursor, hprod, BitVec.ofNat_add, hsize, BitVec.add_assoc]
  · rw [glog, hlog, List.append_assoc]
    rfl
  · rw [hmore₁, List.nil_append, List.cons_append, streamed_sent hwanted]
    exact congrArg (b :: ·) htx
  · rw [hmore]
    exact congrArg (_ :: ·) hcalls

/-- Any number of requests of an EEPROM read, from any point of a window. -/
theorem EeReading.run {slot : Slot} (reqs : List Bool) {n : Nat} {ws : List Byte} {s : State}
    (h : EeReading slot n ws s) : EeRun slot reqs n ws s (busEvents (requests reqs) s) := by
  induction reqs generalizing n ws s with
  | nil => exact .nil h
  | cons nacked reqs ih =>
    rw [busEvents_requests_cons h.fault]
    by_cases hskip : (nacked && !(n == 0)) = true
    · obtain ⟨rfl, hn⟩ : nacked = true ∧ n ≠ 0 := by simpa using hskip
      obtain ⟨hs, hregs, hlog⟩ := h.nacked hn Config.requestRx
      have hcount : consumed (n == 0) (true :: reqs) = consumed (n == 0) reqs := if_pos hskip
      exact .cons hregs hlog (by rw [hcount]) (by rw [moreWindows, moreWindows, hcount])
        (fun xs => streamed_nacked hskip _ _) (ih hs)
    · have hm : nacked = false ∨ n = 0 := by
        cases nacked <;> simp_all
      have hcount : consumed (n == 0) (nacked :: reqs) = consumed false reqs + 1 := if_neg hskip
      cases ws with
      | cons b ws =>
        obtain ⟨hs, hregs, hlog⟩ := h.sent hm Config.requestRx
        have hmore : moreWindows s n (b :: ws) (nacked :: reqs) = moreWindows s (n + 1) ws reqs := by
          rw [moreWindows, moreWindows, hcount, List.length_cons, windowsMore_succ_left]
          rfl
        refine .cons hregs hlog ?_ hmore (fun xs => streamed_sent hskip b _ _) (ih hs)
        rw [hcount, Nat.add_assoc, Nat.add_comm 1]
        rfl
      | nil =>
        have hn : n = s.cfg.eeWindow.toNat := h.size
        have hpos : n ≠ 0 := fun h0 => h.window (BitVec.eq_of_toNat_eq (hn.symm.trans h0))
        obtain rfl : nacked = false := hm.resolve_right hpos
        obtain ⟨b, ws, hfill, hs, hstep, hcursor, hreads, hlog⟩ := h.renewed Config.requestRx
        have hlen := hs.size
        have hcfg : (dataEvent Config.requestRx false s).cfg = s.cfg := (changes_dataEvent _ _ s).kept.cfg
        rw [hcfg, Nat.add_comm] at hlen
        exact .renewed hskip hn hlen hfill hstep hcursor hreads hlog (ih hs)

/-! ### The frame and its stop -/

/-- The first window and the others are all the windows of a read (R190, R191). -/
theorem windowsUsed_eq {size : Nat} (hs : size ≠ 0) (n : Nat) : windowsUsed size n = windowsMore size size n + 1 := by
  have hmore : windowsMore size size n = (n - 1) / size := by
    unfold windowsMore
    rcases Nat.le_total size n with hle | hle
    · exact congrArg (· / size) (by omega)
    · rw [Nat.div_eq_of_lt (by omega), Nat.div_eq_of_lt (by omega)]
  rw [hmore]
  rfl

/-- The address byte of an EEPROM read opens the reading of a whole window (R190). -/
theorem eeRead_reading {slot : Slot} {s : State} (hf : s.fault = none) (hk : s.deviceAt slot = some .eeprom)
    (hw : s.cfg.eeWindow ≠ 0) :
    EeReading slot 0 (eeBytes s.cfg.eeWindow.toNat (restartStop s).ee.cursor (restartStop s)).1
      (addressMatch slot .read s) where
  streaming := eeRead_streaming hk hw
  size := by rw [addressMatch_cfg, eeBytes_length, Nat.zero_add]
  window := by rw [addressMatch_cfg]; exact hw
  device := (addressMatch_deviceAt slot slot .read s).trans hk
  length := by
    rw [addressMatch_cfg, addressMatch_eeRead hk hw]
    exact eeBytes_length _ _ _
  fault := (addressMatch_fault slot .read s).trans hf

/-- The stop of an EEPROM read moves the cursor over the bytes sent of the present window (R192). -/
theorem EeReading.stop {slot : Slot} {n : Nat} {ws : List Byte} {s : State} (h : EeReading slot n ws s) :
    let u := endTransaction .stop s
    u.ee.cursor = s.ee.cursor + BitVec.ofNat 16 n ∧ u.asked = s.asked ∧ EeReadStep s u := by
  obtain ⟨⟨⟨ph, cnt, rem, g, he, hp, hcnt, -⟩, -⟩, -, -, hdev, -⟩ := h
  have hend := endTransaction_some (s := s) (k := .eeprom) (by rw [he]; exact hp) (by rw [he]; exact hdev) .stop
  rw [he] at hend
  have hn : BitVec.ofNat 16 n = cnt := by
    rw [← hcnt]
    simp
  intro u
  rw [show u = _ from hend, hn]
  exact ⟨rfl, rfl, ⟨rfl, rfl, rfl, rfl, rfl, rfl⟩⟩

/-- Settles O59: the first window at the address byte, the others as they are used up, the cursor moved by the rest at
the stop. -/
theorem eeReadFrameContinuesWindowAfterWindow : Obligations.EeReadFrameContinuesWindowAfterWindow := by
  intro s slot reqs hf hk ha hw r size windows stream
  have hpos : size.toNat ≠ 0 := fun h0 => hw (BitVec.eq_of_toNat_eq h0)
  let first := eeBytes size.toNat r.ee.cursor r
  let start := addressMatch slot .read s
  have hstart : start = _ := addressMatch_eeRead hk hw
  have hcfg : start.cfg = s.cfg := addressMatch_cfg slot .read s
  have hlen : first.1.length = size.toNat := eeBytes_length _ _ _
  have hread : EeReading slot 0 first.1 start := eeRead_reading hf hk hw
  obtain ⟨⟨n', ws', hlast, hn'⟩, hstep, hcursor, hasked, rs, hlog, htx, hacks, hcalls⟩ := hread.run reqs
  obtain ⟨hstop, hstopAsked, hstopStep⟩ := hlast.stop
  have hexec : exec (.eeRead slot reqs) s = .next (busEvents (requests reqs) start) :=
    congrArg Host.Outcome.next (runFrame_requests hf ha reqs)
  have hwindows : windows = moreWindows start 0 first.1 reqs + 1 := by
    rw [moreWindows, hlen, hcfg]
    exact windowsUsed_eq hpos _
  have hmore : moreWindows start 0 first.1 reqs = windows - 1 := by rw [hwindows, Nat.add_sub_cancel]
  have hreads : SameReads first.2 start := by
    rw [hstart]
    exact ⟨(eeBytes_frame .adc _ _ r).cfg.symm, rfl, rfl⟩
  have hee : start.ee = { r.ee with win := first.1 } := by
    rw [hstart]
  have hopened : EeReadStep r start := by
    rw [hstart]
    exact ⟨rfl, rfl, rfl, rfl, rfl, rfl⟩
  have hstartLog : start.log = r.log ++ [.call slot ⟨.read, .start⟩ 0] ++ [.ack .ack] := by
    rw [hstart]
  have hcursor₀ : start.ee.cursor = r.ee.cursor := by rw [hee]
  have hsize : BitVec.ofNat 16 size.toNat = size := by simp
  have hprod : windows * size.toNat = size.toNat + (windows - 1) * size.toNat := by
    rw [← hmore, hwindows, Nat.add_mul, Nat.one_mul, Nat.add_comm]
  have hstream : stream = (first.1 ++ (eeBytes ((windows - 1) * size.toNat) (r.ee.cursor + size) first.2).1,
      (eeBytes ((windows - 1) * size.toNat) (r.ee.cursor + size) first.2).2) := by
    rw [show stream = eeBytes (windows * size.toNat) r.ee.cursor r from rfl, hprod, eeBytes_add, hsize]
  have hmb : moreBytes start 0 first.1 reqs = eeBytes ((windows - 1) * size.toNat) (r.ee.cursor + size) start := by
    rw [moreBytes, hmore, hcursor₀, hcfg]
  obtain ⟨hbytes, -, -, hfilled⟩ := hreads.eeBytes ((windows - 1) * size.toNat) (r.ee.cursor + size)
  rw [hmb] at hasked htx
  rw [hmore, hcfg] at hn' hcursor hcalls
  obtain ⟨harm, hstage, hadc, hgpi, hsram, hcount⟩ := (hopened.trans hstep).trans hstopStep
  obtain ⟨hreg, -, hfault, -⟩ := (exec_kept hexec).trans (exec_kept (exec_evStop _))
  refine ⟨_, _, [.call slot ⟨.read, .start⟩ 0] ++ [.ack .ack] ++ rs, hexec, exec_evStop _, ?_, ?_, ?_, ?_, ?_, ?_, ?_,
    harm, hstage, hstopAsked, hadc, hgpi, hsram, hcount.trans (restartStop_gpiCount s), hreg, hfault.trans hf⟩
  · rw [hlog, hstartLog]
    simp only [List.append_assoc]
  · rw [hstream]
    simp only [txBytes_append, htx, hbytes]
    rfl
  · simp only [acksOf_append, hacks]
    rfl
  · rw [hstream, hasked, hfilled]
  · simp only [callsOf_append, hcalls]
    rfl
  · rw [hcursor, hcursor₀]
  · rw [hstop, hcursor, hcursor₀, BitVec.add_assoc, ← BitVec.ofNat_add, Nat.add_comm _ n', hn', Nat.zero_add]
    rfl

end Sys2Proof.Machine
end

section
/-! The wrap law of an SRAM read (spec/46_sram.md R270): any number of requests, window after window, and where the
cursor ends. -/

namespace Sys2Proof.Machine

/-- An SRAM read transaction, the next byte due at address `p` modulo 512; `fresh` while no byte of its window was sent
(R266, R267). -/
structure SramReading (slot : Slot) (p : Nat) (fresh : Bool) (s : State) : Prop where
  regs : ∃ ph cnt rem len, s.eng = ⟨ph, slot, .read, cnt, rem, some ⟨.sram, s.sram.cursor.toNat, len⟩⟩ ∧ ph ≠ .idle ∧
    fresh = (cnt == 0) ∧ (cnt = 0 → rem ≠ 0) ∧ s.sram.cursor.toNat + cnt.toNat + rem.toNat ≤ 512 ∧
    p % 512 = (s.sram.cursor.toNat + cnt.toNat) % 512
  device : s.deviceAt slot = some .sram
  page : 1 ≤ s.cfg.sramPage
  fault : s.fault = none

/-- What an SRAM read leaves alone. -/
structure SramReadStep (s t : State) : Prop where
  mem : t.sram.mem = s.sram.mem
  ee : t.ee = s.ee
  adc : t.adc = s.adc
  gpi : t.gpi = s.gpi
  asked : t.asked = s.asked
  gpiCount : t.gpiCount = s.gpiCount

theorem SramReadStep.refl (s : State) : SramReadStep s s := ⟨rfl, rfl, rfl, rfl, rfl, rfl⟩

theorem SramReadStep.trans {s t u : State} (h : SramReadStep s t) (g : SramReadStep t u) : SramReadStep s u :=
  ⟨g.mem.trans h.mem, g.ee.trans h.ee, g.adc.trans h.adc, g.gpi.trans h.gpi, g.asked.trans h.asked,
    g.gpiCount.trans h.gpiCount⟩

/-- The read window at a cursor, its length at most what is left to the top of the array (R263). -/
theorem sramReadWindow_eq {p : Params} (h : 1 ≤ p.sramPage) (c : U9) :
    ∃ len : Count, sramReadWindow p c = ⟨some ⟨.sram, c.toNat, len⟩, len, .ack⟩ ∧ len ≠ 0 ∧ c.toNat + len.toNat ≤ 512 := by
  have hc : c.toNat < 512 := c.isLt
  have hmax : sramLen p c ≤ 512 - c.toNat := Nat.min_le_left _ _
  refine ⟨BitVec.ofNat 16 (sramLen p c), rfl, sramLen_ne_zero h c, ?_⟩
  rw [BitVec.toNat_ofNat]
  omega

/-- The address byte of an SRAM read (R266). -/
theorem sramRead_reading {slot : Slot} {s : State} (hf : s.fault = none) (hk : s.deviceAt slot = some .sram)
    (hpage : 1 ≤ s.cfg.sramPage) :
    SramReading slot (restartStop s).sram.cursor.toNat true (addressMatch slot .read s) ∧
      SramReadStep (restartStop s) (addressMatch slot .read s) ∧
      (addressMatch slot .read s).log = (restartStop s).log ++ [.call slot ⟨.read, .start⟩ 0] ++ [.ack .ack] := by
  have hpage' : 1 ≤ (restartStop s).cfg.sramPage := by rwa [restartStop_cfg]
  have hfault' : (restartStop s).fault = none := (restartStop_fault s).trans hf
  obtain ⟨len, hwindow, hlen, htop⟩ := sramReadWindow_eq hpage' (restartStop s).sram.cursor
  rw [addressMatch_answered (dir := .read) hk (Prod.ext hwindow rfl), if_neg hlen]
  exact ⟨⟨⟨.addressed, 0, len, len, rfl, by decide, rfl, fun _ => hlen, htop, rfl⟩,
      (restartStop_deviceAt s slot).trans hk, hpage', hfault'⟩,
    ⟨rfl, rfl, rfl, rfl, rfl, rfl⟩, rfl⟩

/-- A request after the master's NACK, once a byte of the window was sent. -/
theorem SramReading.nacked {slot : Slot} {p : Nat} {s : State} (h : SramReading slot p false s) (rx : Byte) :
    SramReading slot p false (dataEvent rx true s) ∧ SramReadStep s (dataEvent rx true s) ∧
      (dataEvent rx true s).log = s.log ++ [.tx Config.fill] := by
  obtain ⟨⟨ph, cnt, rem, len, he, hp, hfresh, hrem, htop, haddr⟩, hdev, hpage, hfault⟩ := h
  have hc : cnt ≠ 0 := by simpa using hfresh.symm
  rw [dataEvent_nacked he hp hc]
  exact ⟨⟨⟨.exchanging, cnt, rem, len, rfl, by decide, hfresh, hrem, htop, haddr⟩, hdev, hpage, hfault⟩,
    ⟨rfl, rfl, rfl, rfl, rfl, rfl⟩, rfl⟩

/-- Any other request sends the byte due, from a new window where the present one is used up (R133, R267). -/
theorem SramReading.sent {slot : Slot} {p : Nat} {fresh : Bool} {s : State} (h : SramReading slot p fresh s) {m : Bool}
    (hm : ¬(m && !fresh) = true) (rx : Byte) :
    SramReading slot (p + 1) false (dataEvent rx m s) ∧ SramReadStep s (dataEvent rx m s) ∧
      ∃ rs, (dataEvent rx m s).log = s.log ++ rs ∧ txBytes rs = [Memory.read (p % 512) s.sram.mem] := by
  obtain ⟨⟨ph, cnt, rem, len, he, hp, rfl, hrem, htop, haddr⟩, hdev, hpage, hfault⟩ := h
  have hm' : m = false ∨ cnt = 0 := by
    cases m <;> simp_all
  have hcur := s.sram.cursor.isLt
  by_cases hr : rem = 0
  · subst hr
    have hc : cnt ≠ 0 := fun h0 => hrem h0 rfl
    obtain ⟨len', hwindow, hlen, htop'⟩ := sramReadWindow_eq hpage (s.sram.cursor + cursorStep cnt)
    have hnext : (s.sram.cursor + cursorStep cnt).toNat = p % 512 := by
      rw [cursorStep, BitVec.toNat_add, BitVec.toNat_setWidth, haddr]
      omega
    have hroom : (s.sram.cursor + cursorStep cnt).toNat < 512 := BitVec.isLt _
    have hbyte : (p % 512) % Config.sramSize = p % 512 := Nat.mod_mod_of_dvd p (Nat.dvd_refl 512)
    have hevent := dataEvent_renewed (rx := rx) he hp hm' hdev (Prod.ext hwindow rfl) hlen hroom
      (b := Memory.read (p % 512) s.sram.mem) (by
        show some (Memory.read ((s.sram.cursor + cursorStep cnt).toNat % Config.sramSize) s.sram.mem) = _
        rw [hnext, hbyte])
    rw [hevent]
    have hleft : (len' - 1).toNat = len'.toNat - 1 := by bv_omega
    have hpos : len'.toNat ≠ 0 := fun h0 => hlen (BitVec.eq_of_toNat_eq h0)
    have h1 : (1 : Count).toNat = 1 := rfl
    refine ⟨⟨⟨.exchanging, 1, len' - 1, len', rfl, by decide, rfl, by simp, ?_, ?_⟩, hdev, hpage, hfault⟩,
      ⟨rfl, rfl, rfl, rfl, rfl, rfl⟩, _, List.append_assoc _ _ _, rfl⟩
    · show (s.sram.cursor + cursorStep cnt).toNat + _ + _ ≤ 512
      omega
    · show _ = ((s.sram.cursor + cursorStep cnt).toNat + _) % 512
      omega
  · have hpos : rem.toNat ≠ 0 := fun h0 => hr (BitVec.eq_of_toNat_eq h0)
    have hroom : s.sram.cursor.toNat + cnt.toNat < (Space.sram).size s.cfg := by
      show _ < 512
      omega
    have hbyte : (s.sram.cursor.toNat + cnt.toNat) % Config.sramSize = p % 512 := haddr.symm
    have hevent := dataEvent_sent (rx := rx) he hp hm' hr hroom (b := Memory.read (p % 512) s.sram.mem)
      (by rw [← hbyte]; rfl)
    rw [hevent]
    have hcnt : (cnt + 1).toNat = cnt.toNat + 1 := by bv_omega
    have hleft : (rem - 1).toNat = rem.toNat - 1 := by bv_omega
    have hsent : cnt + 1 ≠ 0 := by bv_omega
    refine ⟨⟨⟨.exchanging, cnt + 1, rem - 1, len, rfl, by decide, (beq_false_of_ne hsent).symm, fun h0 => absurd h0 hsent, ?_, ?_⟩,
      hdev, hpage, hfault⟩, ⟨rfl, rfl, rfl, rfl, rfl, rfl⟩, _, rfl, rfl⟩
    · show s.sram.cursor.toNat + _ + _ ≤ 512
      omega
    · show _ = (s.sram.cursor.toNat + _) % 512
      omega

/-- Any number of requests of an SRAM read (R270). -/
theorem SramReading.run {slot : Slot} (reqs : List Bool) (f : Nat → Byte) {i p : Nat} {fresh : Bool} {s : State}
    (h : SramReading slot p fresh s) (hf : ∀ j, f (i + j) = Memory.read ((p + j) % 512) s.sram.mem) :
    let t := busEvents (requests reqs) s
    (∃ fresh', SramReading slot (p + consumed fresh reqs) fresh' t) ∧ SramReadStep s t ∧
      ∃ rs, t.log = s.log ++ rs ∧ txBytes rs = streamedFrom f i fresh reqs := by
  induction reqs generalizing i p fresh s with
  | nil => exact ⟨⟨fresh, h⟩, .refl s, [], (List.append_nil _).symm, rfl⟩
  | cons nacked reqs ih =>
    rw [busEvents_requests_cons h.fault]
    by_cases hskip : (nacked && !fresh) = true
    · obtain ⟨rfl, rfl⟩ : nacked = true ∧ fresh = false := by simpa using hskip
      obtain ⟨hs, hstep, hlog⟩ := h.nacked Config.requestRx
      obtain ⟨hend, hrest, rs, glog, gtx⟩ := ih hs (by rw [hstep.mem]; exact hf)
      rw [consumed, if_pos hskip, streamedFrom, if_pos hskip]
      exact ⟨hend, hstep.trans hrest, .tx Config.fill :: rs, by rw [glog, hlog, List.append_assoc]; rfl,
        congrArg (_ :: ·) gtx⟩
    · obtain ⟨hs, hstep, rs, hlog, htx⟩ := h.sent hskip Config.requestRx
      have hf' : ∀ j, f (i + 1 + j) = Memory.read ((p + 1 + j) % 512) (dataEvent Config.requestRx nacked s).sram.mem := by
        intro j
        rw [hstep.mem, Nat.add_assoc i, Nat.add_assoc p]
        exact hf (1 + j)
      obtain ⟨⟨fresh', hend⟩, hrest, qs, glog, gtx⟩ := ih hs hf'
      rw [consumed, if_neg hskip, streamedFrom, if_neg hskip]
      refine ⟨⟨fresh', ?_⟩, hstep.trans hrest, rs ++ qs, by rw [glog, hlog, List.append_assoc], ?_⟩
      · rwa [Nat.add_comm (consumed false reqs), ← Nat.add_assoc]
      · have hfirst : f i = Memory.read (p % 512) s.sram.mem := hf 0
        rw [txBytes_append, htx, gtx, hfirst]
        rfl

/-- The stop of an SRAM read leaves the cursor at the next address (R268). -/
theorem SramReading.stop {slot : Slot} {p : Nat} {fresh : Bool} {s : State} (h : SramReading slot p fresh s) :
    let u := endTransaction .stop s
    u.sram.cursor.toNat = p % 512 ∧ SramReadStep s u := by
  obtain ⟨⟨ph, cnt, rem, len, he, hp, -, -, -, haddr⟩, hdev, -⟩ := h
  have hend := endTransaction_some (s := s) (k := .sram) (by rw [he]; exact hp) (by rw [he]; exact hdev) .stop
  rw [he] at hend
  intro u
  rw [show u = _ from hend]
  refine ⟨?_, ⟨rfl, rfl, rfl, rfl, rfl, rfl⟩⟩
  show (s.sram.cursor + cursorStep cnt).toNat = p % 512
  rw [cursorStep, BitVec.toNat_add, BitVec.toNat_setWidth, haddr]
  omega

/-- Settles O57: each request sends the next byte, modulo 512, and the stop leaves the cursor after the last of them. -/
theorem sramReadWrapsModulo512 : Obligations.SramReadWrapsModulo512 := by
  intro s slot reqs hf hk ha hpage r c
  obtain ⟨hopen, hstart, hstartLog⟩ := sramRead_reading hf hk hpage
  obtain ⟨⟨fresh, hend⟩, hstep, rs, hlog, htx⟩ :=
    hopen.run reqs (fun i => Memory.read ((c + i) % 512) r.sram.mem) (i := 0) (fun j => by rw [hstart.mem, Nat.zero_add])
  obtain ⟨hcursor, hstop⟩ := hend.stop
  have hexec : exec (.sramRead slot reqs) s = .next (busEvents (requests reqs) (addressMatch slot .read s)) :=
    congrArg Host.Outcome.next (runFrame_requests hf ha reqs)
  obtain ⟨hmem, hee, hadc, hgpi, hasked, hcount⟩ := (hstart.trans hstep).trans hstop
  obtain ⟨hreg, -, hfault, -⟩ := (exec_kept hexec).trans (exec_kept (exec_evStop _))
  refine ⟨_, _, [.call slot ⟨.read, .start⟩ 0] ++ [.ack .ack] ++ rs, hexec, exec_evStop _, ?_, ?_, hcursor,
    hmem.trans (restartStop_mem s), hee, hadc, hgpi, hasked, hcount.trans (restartStop_gpiCount s), hreg,
    hfault.trans hf⟩
  · rw [hlog, hstartLog]
    simp only [List.append_assoc]
    rfl
  · simp only [txBytes_append, htx]
    rfl

end Sys2Proof.Machine
end

section
/-! Who writes the EEPROM's arm (spec/43_eeprom.md R196): EE.WriteBufferFull alone, which only the last byte of an F-EE-W
calls. -/

namespace Sys2Proof.Machine

/-! ### An operation that does not call EE.WriteBufferFull -/

/-- The registry is kept, and the arm is too unless the records appended hold a call of EE.WriteBufferFull. -/
def ArmNeedsFull (s t : State) : Prop :=
  t.reg = s.reg ∧
    ∃ rs, t.log = s.log ++ rs ∧ ((∀ c ∈ callsOf rs, isEeWriteFull s c = false) → t.ee.arm = s.ee.arm)

theorem ArmNeedsFull.of_same {s t : State} {rs : List Record} (hreg : t.reg = s.reg) (hlog : t.log = s.log ++ rs)
    (harm : t.ee.arm = s.ee.arm) : ArmNeedsFull s t := ⟨hreg, rs, hlog, fun _ => harm⟩

theorem isEeWriteFull_congr {s t : State} (h : t.reg = s.reg) (c : Slot × Phase × Count) :
    isEeWriteFull t c = isEeWriteFull s c := by
  simp only [isEeWriteFull, State.deviceAt, h]

theorem ArmNeedsFull.trans {s t u : State} (h : ArmNeedsFull s t) (g : ArmNeedsFull t u) : ArmNeedsFull s u := by
  obtain ⟨hreg, rs, hlog, harm⟩ := h
  obtain ⟨greg, qs, glog, garm⟩ := g
  refine ⟨greg.trans hreg, rs ++ qs, by rw [glog, hlog, List.append_assoc], fun hno => ?_⟩
  simp only [callsOf_append, List.mem_append] at hno
  have htu := garm fun c hc => (isEeWriteFull_congr hreg c).trans (hno c (.inr hc))
  exact htu.trans (harm fun c hc => hno c (.inl hc))

/-- A call of the slot's device reaches the arm only as EE.WriteBufferFull (R187, R196). -/
theorem calledState_armNeedsFull {k : DeviceKind} {slot : Slot} {s : State} (hk : s.deviceAt slot = some k) (ph : Phase)
    (n : Count) : ArmNeedsFull s (calledState k slot ph n s) := by
  obtain ⟨rs, hlog, -⟩ := calledState_log k slot ph n s
  refine ⟨(called_frame k slot ph n s).reg, _, hlog, fun hno => calledState_arm k slot ?_ n s⟩
  have hcall := hno (slot, ph, n) List.mem_cons_self
  by_contra hfull
  simp only [not_or, not_not] at hfull
  obtain ⟨rfl, rfl⟩ := hfull
  simp [isEeWriteFull, hk] at hcall

theorem Change.armNeedsFull {s t : State} (h : Change s t) : ArmNeedsFull s t := by
  cases h with
  | regs | paced => exact .of_same (rs := []) rfl (List.append_nil _).symm rfl
  | bus r _ => exact .of_same (rs := [r]) rfl rfl rfl
  | stored sp i v =>
    obtain ⟨-, -, -, hreg, -, -, -, hlog, -, -, -, -, -, -, -, -, harm, -⟩ := storeByte_frame sp i v s
    exact .of_same (rs := []) hreg (hlog.trans (List.append_nil _).symm) harm
  | called k slot ph n hk => exact calledState_armNeedsFull hk ph n
  | sampled =>
    rw [gpiSample_eq]
    exact .of_same rfl rfl rfl

/-- A phase row of the table is one of the device in the transaction's slot (R100). -/
theorem deviceAt_of_phaseRow {c : Ctx} {k : DeviceKind} {ph : Phase} {n : Count} (h : (decodePhase k ph n).wf c = true) :
    c.deviceAt c.slot = some k := by
  have hcalls : c.calls k n = true := by
    obtain ⟨d, kd⟩ := ph
    cases k <;> cases d <;> cases kd <;> exact h
  simp only [Ctx.calls, Bool.and_eq_true, beq_iff_eq] at hcalls
  exact hcalls.1

theorem exec_armNeedsFull {i : Instr} {s t : State} (hwf : i.wf s.ctx = true) (h : exec i s = .next t) :
    ArmNeedsFull s t := by
  rcases exec_changes i s with ⟨u, hu, hc⟩ | ⟨k, ph, n, rfl⟩
  · obtain rfl : u = t := Host.Outcome.next.inj (hu.symm.trans h)
    exact hc.rule (fun s => .of_same (rs := []) rfl (List.append_nil _).symm rfl) .trans Change.armNeedsFull
  · obtain rfl := Host.Outcome.next.inj ((exec_decodePhase k ph n s).symm.trans h)
    exact (calledState_armNeedsFull (deviceAt_of_phaseRow hwf) ph n).trans (Change.regs _ _ _ _).armNeedsFull

/-! ### Engine events that end no F-EE-W -/

/-- Every call that is not EE.WriteBufferFull answers with the arm unchanged. -/
theorem call_arm {slot : Slot} {ph : Phase} {s : State} (h : s.deviceAt slot ≠ some .eeprom ∨ ph ≠ ⟨.write, .boundary⟩)
    (n : Count) : ∃ a t, call slot ph n s = .answered a t ∧ t.ee.arm = s.ee.arm := by
  cases hk : s.deviceAt slot with
  | none => exact ⟨_, s, call_none hk ph n, rfl⟩
  | some k =>
    exact ⟨_, _, call_some hk ph n, calledState_arm k slot (h.imp_left fun hne hee => hne (hk.trans (congrArg _ hee))) n s⟩

theorem shiftOut_arm (s : State) : (shiftOut s).ee.arm = s.ee.arm := by
  unfold shiftOut
  split
  · rfl
  · split <;> rfl

/-- An address match keeps the arm: it calls Stop and Start at most (R131). -/
theorem addressMatch_arm (slot : Slot) (dir : Dir) (s : State) : (addressMatch slot dir s).ee.arm = s.ee.arm := by
  obtain ⟨a, t, hcall, harm⟩ := call_arm (s := openTransaction slot dir (restartStop s)) (slot := slot)
    (ph := ⟨dir, .start⟩) (.inr (by simp)) 0
  have hmatch : addressMatch slot dir s = (t.install a).emit (.ack a.ack) := by
    unfold addressMatch
    rw [hcall]
  rw [hmatch]
  exact harm.trans (restartStop_arm s)

theorem addressEvent_arm (b : BitVec 5) (slot : Slot) (dir : Dir) (s : State) :
    (addressEvent b slot dir s).ee.arm = s.ee.arm := by
  unfold addressEvent
  split
  · exact addressMatch_arm slot dir s
  · rfl

/-- The end of a transaction keeps the arm: it calls Stop or Error (R136, R137). -/
theorem endTransaction_arm {kind : PhaseKind} (hkind : kind ≠ .boundary) (s : State) :
    (endTransaction kind s).ee.arm = s.ee.arm := by
  unfold endTransaction
  split
  · rfl
  · obtain ⟨a, t, hcall, harm⟩ := call_arm (s := s) (slot := s.eng.slot) (ph := ⟨s.eng.dir, kind⟩)
      (.inr (by simp [hkind])) s.eng.cnt
    rw [hcall]
    exact harm

theorem sendByte_arm (m : Bool) (s : State) : (sendByte m s).ee.arm = s.ee.arm := by
  unfold sendByte
  split
  · rfl
  · split
    · obtain ⟨a, t, hcall, harm⟩ := call_arm (s := openExchange s) (slot := s.eng.slot) (ph := ⟨.read, .boundary⟩)
        (.inr (by simp)) s.eng.cnt
      have hrefill : refill (openExchange s) = shiftOut (t.install a) := by
        unfold refill
        rw [show call (openExchange s).eng.slot _ (openExchange s).eng.cnt _ = _ from hcall]
      rw [hrefill]
      exact (shiftOut_arm _).trans harm
    · exact shiftOut_arm _

/-- A received byte keeps the arm unless it is the last one of an EEPROM write grant (R134, R187). -/
theorem receiveByte_arm {s : State} (h : s.deviceAt s.eng.slot ≠ some .eeprom ∨ s.eng.rem ≠ 1) (rx : Byte) :
    (receiveByte rx s).ee.arm = s.ee.arm := by
  unfold receiveByte
  split
  · rfl
  · split
    · rfl
    · next sp i _ =>
      obtain ⟨heng, -, -, -, -, -, -, -, -, -, -, -, -, -, -, -, harm, -⟩ := storeByte_frame sp i rx (openExchange s)
      split
      · next hlast =>
        have hslot : ((openExchange s).storeByte sp i rx).countByte.eng.slot = s.eng.slot :=
          (congrArg Engine.slot heng :)
        have hdev : ((openExchange s).storeByte sp i rx).countByte.deviceAt s.eng.slot = s.deviceAt s.eng.slot :=
          storeByte_deviceAt sp i rx (openExchange s) s.eng.slot
        obtain ⟨a, t, hcall, tarm⟩ := call_arm (s := ((openExchange s).storeByte sp i rx).countByte) (slot := s.eng.slot)
          (ph := ⟨.write, .boundary⟩) (.inl (by rw [hdev]; exact h.resolve_right (not_not.mpr hlast)))
          ((openExchange s).storeByte sp i rx).countByte.eng.cnt
        rw [deliverFull, hslot, hcall]
        exact tarm.trans harm
      · exact harm

/-- A data event that ends no F-EE-W keeps the arm (R196). -/
theorem dataEvent_arm {s : State} (h : endsNoEeWrite s = true) (rx : Byte) (m : Bool) :
    (dataEvent rx m s).ee.arm = s.ee.arm := by
  by_cases hp : s.eng.phase = .idle
  · rw [dataEvent_idle hp]
    rfl
  cases hd : s.eng.dir with
  | read =>
    rw [dataEvent_read hp hd]
    exact sendByte_arm m s
  | write =>
    rw [dataEvent_write hp hd]
    exact receiveByte_arm (by simpa [endsNoEeWrite, hp, hd] using h) rx

/-- A tick keeps the arm where the events between its sections are no data slots (R163). -/
theorem tickEvent_arm {es : List BusEvent} (hes : ∀ e ∈ es, dataSlot e = false) (s : State) :
    (tickEvent es s).ee.arm = s.ee.arm := by
  have hevents : ∀ t : State, (busEvents es t).ee.arm = t.ee.arm := by
    induction es with
    | nil => exact fun _ => rfl
    | cons e es ih =>
      intro t
      have hevent : (busEvent e t).ee.arm = t.ee.arm := by
        cases e with
        | addr a => exact addressEvent_arm _ _ _ t
        | data rx m => exact absurd (hes _ List.mem_cons_self) (by simp [dataSlot])
        | stop => exact endTransaction_arm (by decide) t
        | error => exact endTransaction_arm (by decide) t
      unfold busEvents
      split
      · rfl
      · exact (ih (fun e he => hes e (List.mem_cons_of_mem _ he)) _).trans hevent
  have hhead : (busEvents es (watchdogStep s)).ee.arm = s.ee.arm := by
    rw [hevents, watchdogStep_eq]
  unfold tickEvent
  split
  · exact hhead
  · obtain ⟨-, -, hee, -⟩ := gpiTick_frame (busEvents es (watchdogStep s))
    exact (congrArg Eeprom.arm hee).trans hhead

/-! ### Frames that are no F-EE-W -/

/-- The open transaction is no write of the EEPROM: a read, or of another device. -/
def NoEeWrite (s : State) : Prop := s.eng.dir = .read ∨ s.deviceAt s.eng.slot ≠ some .eeprom

theorem NoEeWrite.endsNoEeWrite {s : State} (h : NoEeWrite s) : endsNoEeWrite s = true := by
  rcases h with h | h <;> simp [Machine.endsNoEeWrite, h]

theorem endTransaction_place (kind : PhaseKind) (s : State) :
    (endTransaction kind s).eng.slot = s.eng.slot ∧ (endTransaction kind s).eng.dir = s.eng.dir := by
  by_cases hp : s.eng.phase = .idle
  · rw [endTransaction_idle hp]
    exact ⟨rfl, rfl⟩
  · cases hk : s.deviceAt s.eng.slot with
    | none =>
      rw [endTransaction_none hp hk]
      exact ⟨rfl, rfl⟩
    | some k =>
      rw [endTransaction_some hp hk]
      exact ⟨rfl, rfl⟩

/-- An event that opens no transaction keeps the open one's slot and direction. -/
theorem busEvent_place {e : BusEvent} (he : ∀ a, e ≠ .addr a) (s : State) :
    (busEvent e s).eng.slot = s.eng.slot ∧ (busEvent e s).eng.dir = s.eng.dir := by
  cases e with
  | addr a => exact absurd rfl (he a)
  | data rx m => exact dataEvent_place rx m s
  | stop => exact endTransaction_place .stop s
  | error => exact endTransaction_place .error s

/-- The events of a transaction that is no EEPROM write, after its address byte, keep the arm. -/
theorem busEvents_arm {es : List BusEvent} (hes : ∀ e ∈ es, ∀ a, e ≠ .addr a) {s : State} (h : NoEeWrite s) :
    (busEvents es s).ee.arm = s.ee.arm := by
  induction es generalizing s with
  | nil => rfl
  | cons e es ih =>
    have he : ∀ a, e ≠ .addr a := hes e List.mem_cons_self
    have hevent : (busEvent e s).ee.arm = s.ee.arm := by
      cases e with
      | addr a => exact absurd rfl (he a)
      | data rx m => exact dataEvent_arm h.endsNoEeWrite rx m
      | stop => exact endTransaction_arm (by decide) s
      | error => exact endTransaction_arm (by decide) s
    have hnext : NoEeWrite (busEvent e s) := by
      obtain ⟨hslot, hdir⟩ := busEvent_place he s
      simpa [NoEeWrite, State.deviceAt, hslot, hdir, (changes_busEvent e s).kept.reg] using h
    unfold busEvents
    split
    · rfl
    · exact (ih (fun e he => hes e (List.mem_cons_of_mem _ he)) hnext).trans hevent

theorem serves_iff {s : State} {slot : Slot} {k : DeviceKind} :
    s.ctx.serves slot k = true ↔ s.cfg.answers slot = true ∧ s.deviceAt slot = some k := by
  rw [Ctx.serves, Bool.and_eq_true, beq_iff_eq]
  exact Iff.rfl

/-- A recorded fault ends a frame before its first event (R285). -/
theorem runFrame_faulted {slot : Slot} {s : State} {f : Fault} (hf : s.fault = some f)
    (ha : s.cfg.answers slot = true) (dir : Dir) (ts : List Token) : runFrame slot dir ts s = s := by
  simp only [runFrame_answered ha, busEvents, hf]

/-- A frame that reads, or to another device, keeps the arm. -/
theorem runFrame_arm {slot : Slot} {k : DeviceKind} {dir : Dir} {ts : List Token} {s : State}
    (hserves : s.ctx.serves slot k = true) (hw : dir = .read ∨ k ≠ .eeprom)
    (hts : ∀ e ∈ tokenEvents s.cfg .data ts, ∀ a, e ≠ .addr a) : (runFrame slot dir ts s).ee.arm = s.ee.arm := by
  obtain ⟨ha, hk⟩ := serves_iff.mp hserves
  cases hf : s.fault with
  | some f => rw [runFrame_faulted hf ha]
  | none =>
    obtain ⟨hslot, hdir⟩ := addressMatch_place slot dir s
    have hplace : NoEeWrite (addressMatch slot dir s) := by
      simpa [NoEeWrite, hslot, hdir, addressMatch_deviceAt, hk] using hw
    rw [runFrame_eq hf ha, busEvents_arm hts hplace]
    exact addressMatch_arm slot dir s

theorem bytes_no_addr (p : Params) (bs : List Byte) :
    ∀ e ∈ tokenEvents p .data (bs.map .byte), ∀ a, e ≠ .addr a := by
  simp

theorem requests_no_addr (p : Params) (reqs : List Bool) :
    ∀ e ∈ tokenEvents p .data (reqs.map reqToken), ∀ a, e ≠ .addr a := by
  rw [tokenEvents_reqs, List.forall_mem_map]
  exact fun _ _ _ => nofun

theorem cursorFrame_no_addr (p : Params) (hi lo : Byte) (fin : FrameEnd) :
    ∀ e ∈ tokenEvents p .data [.byte hi, .byte lo, endToken fin], ∀ a, e ≠ .addr a := by
  cases fin <;> simp [tokenEvents, Heard.event, Heard.after, Token.event, endToken]

/-- EE_CTRL keeps the arm: its address is no arm register and no store write (R187). -/
theorem eeCtrl_arm {slot : Slot} {d : Byte} {s t : State} (hsp : s.cfg.specialsApart = true)
    (hserves : s.ctx.serves slot .eeprom = true) (h : exec (.eeCtrl slot d) s = .next t) : t.ee.arm = s.ee.arm := by
  obtain ⟨ha, hk⟩ := serves_iff.mp hserves
  cases hf : s.fault with
  | some f =>
    obtain rfl : runFrame slot .write _ s = t := Host.Outcome.next.inj h
    rw [runFrame_faulted hf ha]
  | none =>
    obtain ⟨-, -, -, hctrl⟩ := eeRegisterFrames s slot d hf hk ha hsp
    obtain rfl := Host.Outcome.next.inj (hctrl.symm.trans h)
    exact restartStop_arm s

/-- EE_SET_CURSOR keeps the arm: it ends before a third byte (R86, R188). -/
theorem eeSetCursor_arm {slot : Slot} {hi lo : Byte} {fin : FrameEnd} {s t : State}
    (hserves : s.ctx.serves slot .eeprom = true) (h : exec (.eeSetCursor slot hi lo fin) s = .next t) :
    t.ee.arm = s.ee.arm := by
  obtain ⟨ha, hk⟩ := serves_iff.mp hserves
  cases hf : s.fault with
  | some f =>
    obtain rfl : runFrame slot .write _ s = t := Host.Outcome.next.inj h
    rw [runFrame_faulted hf ha]
  | none =>
    obtain ⟨hstop, u, hrestart, hu, -⟩ := eeSetCursorFrame s slot hi lo hf hk ha
    cases fin with
    | stop =>
      obtain rfl := Host.Outcome.next.inj (hstop.symm.trans h)
      exact restartStop_arm s
    | restart =>
      obtain rfl := Host.Outcome.next.inj (hrestart.symm.trans h)
      rw [hu]
      exact restartStop_arm s

/-! ### Every operation -/

/-- An operation encoded as an F-PHASE word is a phase row (R94). -/
theorem phaseRow_of_encode {c : Ctx} {i : Instr} {code : BitVec 3} (hsp : c.cfg.specialsApart = true)
    (hwf : i.wf c = true) (he : encode c i = .phase code) : ∃ k ph n, i = decodePhase k ph n := by
  have hd := decodeOfEncodeIsTheOperation c i hsp hwf
  rw [he, decode] at hd
  cases hk : c.deviceAt c.slot with
  | none => simp [hk] at hd
  | some k =>
    simp only [hk, Except.ok.injEq] at hd
    exact ⟨k, _, _, hd.symm⟩

/-- A phase row but EE.WriteBufferFull's keeps the arm. -/
theorem phaseRow_arm {i : Instr} {s t : State} (hi : ∃ k ph n, i = decodePhase k ph n) (hkeeps : keepsArm s i = true)
    (h : exec i s = .next t) : t.ee.arm = s.ee.arm := by
  obtain ⟨k, ph, n, rfl⟩ := hi
  obtain rfl := Host.Outcome.next.inj ((exec_decodePhase k ph n s).symm.trans h)
  refine calledState_arm k s.eng.slot ?_ n s
  by_contra hfull
  simp only [not_or, not_not] at hfull
  obtain ⟨rfl, rfl⟩ := hfull
  exact absurd hkeeps (by simp [decodePhase, keepsArm])

/-- Settles O40: the first clause by the groups of rows, the second by the elementary changes. -/
theorem onlyEepromWritesTouchTheArm : Obligations.OnlyEepromWritesTouchTheArm := by
  refine ⟨fun s t i hsp hwf hkeeps h => ?_, fun s t i hwf h => (exec_armNeedsFull hwf h).2⟩
  have hframe {slot dir ts} (hx : exec i s = .next (runFrame slot dir ts s))
      (harm : (runFrame slot dir ts s).ee.arm = s.ee.arm) : t.ee.arm = s.ee.arm := by
    rw [← Host.Outcome.next.inj (hx.symm.trans h)]
    exact harm
  cases i with
  | evAddrW b slot | evAddrR b slot =>
    cases h
    exact addressEvent_arm b slot _ s
  | evDataRx rx m | evDataTx rx m =>
    cases h
    exact dataEvent_arm hkeeps rx m
  | evStop | evError =>
    cases h
    exact endTransaction_arm (by decide) s
  | evTick es =>
    cases h
    exact tickEvent_arm (by simpa [keepsArm] using hkeeps) s
  | eeWriteByte | eeArmHi | eeArmLo | eeArmData => cases hkeeps
  | eeCtrl slot d => exact eeCtrl_arm hsp hwf h
  | eeSetCursor slot hi lo fin => exact eeSetCursor_arm hwf h
  | eeRead slot reqs | adcRead slot reqs | gpiRead slot reqs | sramRead slot reqs =>
    exact hframe rfl (runFrame_arm (Bool.and_eq_true_iff.mp hwf).1 (.inl rfl) (requests_no_addr _ reqs))
  | adcCmd slot b => exact hframe rfl (runFrame_arm hwf (.inr (by decide)) (bytes_no_addr _ [b]))
  | gpiSetMask slot b => exact hframe rfl (runFrame_arm hwf (.inr (by decide)) (bytes_no_addr _ [b]))
  | sramWrite slot hi lo ds =>
    exact hframe rfl (runFrame_arm (Bool.and_eq_true_iff.mp hwf).1 (.inr (by decide)) (bytes_no_addr _ (hi :: lo :: ds)))
  | sramSetCursor slot hi lo fin =>
    exact hframe rfl (runFrame_arm hwf (.inr (by decide)) (cursorFrame_no_addr _ hi lo fin))
  | _ => exact phaseRow_arm (phaseRow_of_encode (c := s.ctx) hsp hwf rfl) hkeeps h

end Sys2Proof.Machine
end
